-- ==== Sys2Proof/Word.lean ====
section
/-! DEFINITION. The bit vectors of the model: bus words, bytes, window offsets. -/

namespace Sys2Proof

/-- A 32-bit value of the host bus: a register, a command word, bus data (10_state.md section 2, 20_memory.md R63). -/
abbrev Word := BitVec 32

/-- A codeword, a buffer byte, an element of GF(256) (00_scope.md R5, 40_gf.md R110). -/
abbrev Byte := BitVec 8

/-- A byte offset in the 128 KiB host window (20_memory.md R60: "a 17-bit offset 0x00000..0x1FFFF"). -/
abbrev Offset := BitVec 17

end Sys2Proof
end

