-- ==== Sys2Proof/Config.lean ====
section
/-! DEFINITION. What the spec leaves to the implementation or leaves open: the named parameters of 00_scope.md R5 and
the free values of 93_implementation_defined.md. Every one is opaque: no proof can learn its value. The constant
tables, which the spec gives, stand in Machine/Tables.lean (log 14). -/

namespace Sys2Proof

/-- The values of the parameter REMAINDER_FILL (42_matrix.md R176). -/
inductive RemainderFill where
  | leave
  | zeroMasked
deriving DecidableEq, Repr, Inhabited

/-- The values of the parameter FORMAT_COPY2 (42_matrix.md R179). -/
inductive FormatCopy2 where
  | write
  | omit
deriving DecidableEq, Repr, Inhabited

/-- REMAINDER_FILL of this implementation (R5, R176, U6; log 8). -/
opaque Config.remainderFill : RemainderFill

/-- FORMAT_COPY2 of this implementation (R5, R179, U7; log 9). -/
opaque Config.formatCopy2 : FormatCopy2

/-- QRC_BASE, the base address of the window (R60, U8). It does not affect any rule and no definition reads it (log 10). -/
opaque Config.qrcBase : Nat

/-- LATENCY (R258, U5): for the draw number and the accepted command word, how many host accesses can be served before
the command ends; always finite (log 3). -/
opaque Config.latency : Nat → Word → Nat

/-- What a read of a buffer byte not written since reset gives (R41, U1): for the draw number, which read of that byte
within the draw it is, and the byte's offset (log 4, log 21). -/
opaque Config.unwrittenByte : Nat → Nat → Nat → Byte

/-- What a read of a DARK bit not written since reset gives (R41, U1): draw number, row, column (log 4). -/
opaque Config.unwrittenDark : Nat → Nat → Nat → Bool

/-- What a read of a RSV bit not written since reset gives (R41, U1): draw number, row, column (log 4). -/
opaque Config.unwrittenRsv : Nat → Nat → Nat → Bool

/-- What a host read of one byte of a buffer or of the matrix window gives while BUSY = 1 (R67, U2): draw number,
offset (log 6). -/
opaque Config.busyByte : Nat → Nat → Byte

/-- What a host read of RESULT or a geometry register gives while BUSY = 1 (R67, U2): draw number, offset (log 6). -/
opaque Config.busyRegister : Nat → Nat → Word

end Sys2Proof
end

