-- ==== Sys2Proof/Syntax.lean ====
section
/-! DEFINITION. The commands of QRC: one constructor for each row of spec/opcode_table.json (30_encoding.md R93). -/

namespace Sys2Proof

/-- A command (30_encoding.md R93). Operands are the numbers a1, a2 of R92; WellFormed says which fit their field. -/
inductive Instr where
  | nop
  | gfAdd
  | gfMul
  | gfLog
  | gfExp
  | gfGen (n k : Nat)
  | rsEcc (b : Nat)
  | rsEccAll
  | rsInterleave
  | rsSynd (b : Nat)
  | rsEncode
  | mxClear
  | mxTemplate
  | mxVerinfo
  | mxPlace
  | mxFormat
  | mxBuild
  | qrEncode
deriving DecidableEq, Repr

end Sys2Proof
end

