-- ==== Sys2Proof/WellFormed.lean ====
section
/-! DEFINITION. Which terms of Instr are commands that can be written: every operand fits its 8-bit field
(30_encoding.md R91, R92, R97: "A pseudo-command whose argument does not fit its field ... is an assembler error"). -/

namespace Sys2Proof

/-- An operand fits an 8-bit field of the command word (R90, R92). -/
def fitsField (x : Nat) : Bool := decide (x < 256)

/-- Every operand of the command fits its field (R91, R97). -/
def Instr.wellFormed : Instr → Bool
  | .nop => true
  | .gfAdd => true
  | .gfMul => true
  | .gfLog => true
  | .gfExp => true
  | .gfGen n k => fitsField n && fitsField k
  | .rsEcc b => fitsField b
  | .rsEccAll => true
  | .rsInterleave => true
  | .rsSynd b => fitsField b
  | .rsEncode => true
  | .mxClear => true
  | .mxTemplate => true
  | .mxVerinfo => true
  | .mxPlace => true
  | .mxFormat => true
  | .mxBuild => true
  | .qrEncode => true

end Sys2Proof
end

