-- ==== Sys2Proof/Decode.lean ====
section
/-! DEFINITION. Reading and writing command words (30_encoding.md R90 to R95): fields, decoder, encoder. -/

namespace Sys2Proof

/-- Why a word is no command (R94). The machine reports ILLEGAL_CMD for each alike; the names only say which clause of
R94 applies (log 18). -/
inductive Reject where
  /-- OP is not in the table of R93. -/
  | unassignedOp
  /-- A bit that the format marks "must be 0" is 1. -/
  | mustBeZero
  /-- Fewer than four bytes: no whole word (a decoder of bytes only; a CMD write always gives a word). -/
  | truncated
deriving DecidableEq, Repr

/-- OP, bits 7:0 (R90). -/
def opField (w : Word) : Nat := (w.extractLsb' 0 8).toNat

/-- A1, bits 15:8 (R90, R92). -/
def a1Field (w : Word) : Nat := (w.extractLsb' 8 8).toNat

/-- A2, bits 23:16 (R90, R92). -/
def a2Field (w : Word) : Nat := (w.extractLsb' 16 8).toNat

/-- RSVD, bits 31:24 (R90). -/
def rsvdField (w : Word) : Nat := (w.extractLsb' 24 8).toNat

/-- Format F0 (R91): A1, A2 and RSVD must be 0. -/
def formatF0 (w : Word) (i : Instr) : Except Reject Instr :=
  if a1Field w = 0 ∧ a2Field w = 0 ∧ rsvdField w = 0 then .ok i else .error .mustBeZero

/-- Format F1 (R91): operand a1; A2 and RSVD must be 0. -/
def formatF1 (w : Word) (mk : Nat → Instr) : Except Reject Instr :=
  if a2Field w = 0 ∧ rsvdField w = 0 then .ok (mk (a1Field w)) else .error .mustBeZero

/-- Format F2 (R91): operands a1 and a2; RSVD must be 0. -/
def formatF2 (w : Word) (mk : Nat → Nat → Instr) : Except Reject Instr :=
  if rsvdField w = 0 then .ok (mk (a1Field w) (a2Field w)) else .error .mustBeZero

/-- The command a word encodes (R93), or why it is illegal (R94). -/
def decode (w : Word) : Except Reject Instr :=
  match opField w with
  | 0x00 => formatF0 w .nop
  | 0x01 => formatF0 w .gfAdd
  | 0x02 => formatF0 w .gfMul
  | 0x03 => formatF0 w .gfLog
  | 0x04 => formatF0 w .gfExp
  | 0x05 => formatF2 w .gfGen
  | 0x10 => formatF1 w .rsEcc
  | 0x11 => formatF0 w .rsEccAll
  | 0x12 => formatF0 w .rsInterleave
  | 0x13 => formatF1 w .rsSynd
  | 0x14 => formatF0 w .rsEncode
  | 0x20 => formatF0 w .mxClear
  | 0x21 => formatF0 w .mxTemplate
  | 0x22 => formatF0 w .mxVerinfo
  | 0x23 => formatF0 w .mxPlace
  | 0x24 => formatF0 w .mxFormat
  | 0x25 => formatF0 w .mxBuild
  | 0x30 => formatF0 w .qrEncode
  | _ => .error .unassignedOp

/-- Four bytes as a bus word, the byte at the lowest offset in bits 7:0 (20_memory.md R63). -/
def wordOfBytes (b0 b1 b2 b3 : Byte) : Word := b3 ++ b2 ++ b1 ++ b0

/-- The command in the first four bytes of a list, with the bytes that follow it (R90: every command is one word). -/
def decodeBytes : List Byte → Except Reject (Instr × List Byte)
  | b0 :: b1 :: b2 :: b3 :: rest =>
    match decode (wordOfBytes b0 b1 b2 b3) with
    | .ok i => .ok (i, rest)
    | .error r => .error r
  | _ => .error .truncated

/-- The bytes of a number, least significant first, `count` of them (R63). -/
def littleEndianBytes : Nat → Nat → List Byte
  | 0, _ => []
  | count + 1, w => BitVec.ofNat 8 w :: littleEndianBytes count (w / 256)

/-- The instruction the decoder reads from a row's bits `w`, `nbits` of them, numbered as spec/opcode_table.json numbers
them; every bit above `nbits` is 0. -/
def decodeTableWord (nbits w : Nat) : Option Instr :=
  match decodeBytes (littleEndianBytes (max 4 ((nbits + 7) / 8)) (w % 2 ^ nbits)) with
  | .ok (i, _) => some i
  | .error _ => none

/-- OP of a command (R93). -/
def opcodeOf : Instr → Nat
  | .nop => 0x00
  | .gfAdd => 0x01
  | .gfMul => 0x02
  | .gfLog => 0x03
  | .gfExp => 0x04
  | .gfGen _ _ => 0x05
  | .rsEcc _ => 0x10
  | .rsEccAll => 0x11
  | .rsInterleave => 0x12
  | .rsSynd _ => 0x13
  | .rsEncode => 0x14
  | .mxClear => 0x20
  | .mxTemplate => 0x21
  | .mxVerinfo => 0x22
  | .mxPlace => 0x23
  | .mxFormat => 0x24
  | .mxBuild => 0x25
  | .qrEncode => 0x30

/-- A1 and A2 of a command: b = A1; n = A1, k = A2; 0 where the format has no operand (R91, R92). -/
def operandsOf : Instr → Nat × Nat
  | .gfGen n k => (n, k)
  | .rsEcc b => (b, 0)
  | .rsSynd b => (b, 0)
  | .nop => (0, 0)
  | .gfAdd => (0, 0)
  | .gfMul => (0, 0)
  | .gfLog => (0, 0)
  | .gfExp => (0, 0)
  | .rsEccAll => (0, 0)
  | .rsInterleave => (0, 0)
  | .rsEncode => (0, 0)
  | .mxClear => (0, 0)
  | .mxTemplate => (0, 0)
  | .mxVerinfo => (0, 0)
  | .mxPlace => (0, 0)
  | .mxFormat => (0, 0)
  | .mxBuild => (0, 0)
  | .qrEncode => (0, 0)

/-- The word `RSVD ‖ A2 ‖ A1 ‖ OP` (R90) with RSVD = 0. -/
def packWord (op a1 a2 : Nat) : Word :=
  0#8 ++ BitVec.ofNat 8 a2 ++ BitVec.ofNat 8 a1 ++ BitVec.ofNat 8 op

/-- The word of a command (R90 to R93). -/
def encode (i : Instr) : Word :=
  packWord (opcodeOf i) (operandsOf i).1 (operandsOf i).2

end Sys2Proof
end

