-- ==== Sys2Proof/Machine/State.lean ====
section
/-! DEFINITION. The state of QRC (10_state.md), with the host's pending accesses, as plain data; the state after reset. -/

namespace Sys2Proof.Machine

/-- CFG.LEVEL: the error-correction level, "ordered by increasing redundancy" (R29). -/
inductive Level where
  | L
  | M
  | Q
  | H
deriving DecidableEq, Repr

/-- The values of ERRCODE (60_exceptions.md R223); no other value is ever written (log 23). -/
inductive ErrCode where
  | none
  | illegalCmd
  | badConfig
  | logZero
  | badBlock
  | badArg
deriving DecidableEq, Repr

/-- CFG (R26): VERSION stores any 6-bit value (R28), LEVEL any of its four codes (R29), MASK any of 0..7 (R27). The
reserved bits read as zero and hold nothing. -/
structure Cfg where
  version : BitVec 6
  level   : Level
  mask    : BitVec 3
deriving DecidableEq, Repr

/-- The stored bits of STATUS (R23). BUSY is the view "a command is in progress" of `State.running` (log 7). -/
structure Status where
  done : Bool
  err  : Bool
  synz : Bool
  ovr  : Bool
deriving DecidableEq, Repr

/-- Buffer bytes that have been written since reset, by window offset (20_memory.md R60), offsets strictly rising. An
unlisted byte is unwritten: reading it gives a free draw (R41; log 4, log 22). -/
abbrev Memory := List Host.Cell

/-- A plane of 177×177 bits (R37). A cell holds none while nothing has written it since reset (R41). -/
abbrev Plane := Vector (Vector (Option Bool) 177) 177

/-- The matrix store (R37). -/
structure Planes where
  dark : Plane
  rsv  : Plane
deriving DecidableEq, Repr

/-- The command in progress (R25, R39): the accepted word, and how many more host accesses may be served before the
command ends (R258; log 3). -/
structure Running where
  word : Word
  wait : Nat
deriving DecidableEq, Repr

/-- The width of a host access (20_memory.md R61, R62). -/
inductive Width where
  | byte
  | half
  | word
deriving DecidableEq, Repr

/-- One action of the world outside QRC: a bus access of the host (30_encoding.md R96), or the platform's hard reset
(70_reset_and_hazards.md R250; log 12). -/
inductive HostOp where
  /-- `MemWrite(off, width, value)`: WR, WRH, WRB. -/
  | write (width : Width) (off : Offset) (value : Word)
  /-- `MemRead(off, width)`: RD, RDB and the halfword read of R62. -/
  | read (width : Width) (off : Offset)
  /-- WAIT: repeat RD STATUS until BUSY reads 0 (log 15). -/
  | wait
  /-- The reset input of the platform. -/
  | hardReset
deriving DecidableEq, Repr

/-- Everything the spec gives the machine, and the model's own `script`, `rdata` and `draws` (INVENTORY.md, State). -/
structure State where
  /-- CTRL.IE (R22). -/
  ie      : Bool
  /-- STATUS but BUSY (R23). -/
  status  : Status
  /-- ERRCODE (R24). -/
  errcode : ErrCode
  /-- CFG (R26). -/
  cfg     : Cfg
  /-- OPA[7:0] (R30). -/
  opa     : Byte
  /-- OPB[7:0] (R30). -/
  opb     : Byte
  /-- RESULT[7:0] (R30). -/
  result  : Byte
  /-- DATA, ECC, SEQ and SYND (R33 to R36). -/
  mem     : Memory
  /-- DARK and RSV (R37). -/
  planes  : Planes
  /-- The command in progress, if any; STATUS.BUSY (R23, R25, R39). -/
  running : Option Running
  /-- The host's accesses still to come, the next one first (R96; log 1). The model's own field. -/
  script  : List HostOp
  /-- What the last host read returned (00_scope.md R8, MemRead; log 11). The model's own field. -/
  rdata   : Word
  /-- Which free draw comes next (R41; log 5). The model's own field. -/
  draws   : Nat
deriving DecidableEq, Repr

/-- QRC has no fault: no trap, no bus error, no hang (R64, R220, R227), so no reason to stop exists (log 17). -/
inductive Fault where
deriving DecidableEq, Repr

/-- Why an instruction has no meaning. -/
inductive Refusal where
  /-- Raised by an arm of exec whose instruction the model does not give a meaning; safe. No arm raises it. -/
  | notModelled (mnemonic : String)
deriving DecidableEq, Repr

/-- A plane nothing has written since reset (R41). -/
def Plane.unwritten : Plane := Vector.replicate 177 (Vector.replicate 177 none)

/-- The machine right after reset (R40, R251), with nothing pending on the host's side (log 5). -/
def State.reset : State where
  ie      := false
  status  := ⟨false, false, false, false⟩
  errcode := .none
  cfg     := ⟨1#6, .L, 4#3⟩
  opa     := 0#8
  opb     := 0#8
  result  := 0#8
  mem     := []
  planes  := ⟨Plane.unwritten, Plane.unwritten⟩
  running := none
  script  := []
  rdata   := 0#32
  draws   := 0

end Sys2Proof.Machine
end

