-- ==== Sys2Proof/Machine/Ops.lean ====
section
/-! DEFINITION. The named operations over the state: buffer bytes, matrix cells, registers, how a command ends (with or
without an error) and what a reset does. -/

namespace Sys2Proof.Machine

/-- What running one step or one command answers. -/
abbrev Result := Host.Outcome State Fault Refusal

/-! ### The address map (20_memory.md R60) -/

/-- Offset of DATA[0]. -/
def dataBase : Nat := 0x01000

/-- Offset of ECC[0]. -/
def eccBase : Nat := 0x02000

/-- Offset of SEQ[0]. -/
def seqBase : Nat := 0x03000

/-- Offset of SYND[0]. -/
def syndBase : Nat := 0x04000

/-- Offset of the byte of cell (0, 0) in the matrix window. -/
def matrixBase : Nat := 0x10000

/-- The offset is a byte of DATA, ECC, SEQ or SYND. -/
def isBufferByte (a : Nat) : Bool := decide (0x01000 ≤ a ∧ a < 0x04020)

/-! ### Buffer bytes -/

/-- What the byte at an offset holds; none when nothing has written it since reset (R41). -/
def Memory.lookup : Memory → Nat → Option Byte
  | [], _ => none
  | (x, v) :: m, a => if x = a then some v else Memory.lookup m a

/-- Writes one byte, keeping the offsets strictly rising. -/
def Memory.store : Memory → Nat → Byte → Memory
  | [], a, v => [(a, v)]
  | (x, w) :: m, a, v =>
    if a < x then (a, v) :: (x, w) :: m
    else if x = a then (a, v) :: m
    else (x, w) :: Memory.store m a v

/-- Writes consecutive bytes, the first at offset `a`. -/
def Memory.storeBytes : Memory → Nat → List Byte → Memory
  | m, _, [] => m
  | m, a, v :: vs => Memory.storeBytes (Memory.store m a v) (a + 1) vs

/-- The canonical form: offsets strictly rising, each one a byte of a buffer. An unlisted byte reads as no fixed value,
so no entry equals it. -/
abbrev Memory.wf (m : Memory) : Prop :=
  (m.map Prod.fst).Pairwise (· < ·) ∧ ∀ cell ∈ m, isBufferByte cell.1 = true

/-- A read of the byte at `a`: what it holds, or a free draw if nothing has written it since reset (R41). `occ` numbers
the reads of one byte within one draw (log 21). -/
def readByte (s : State) (occ a : Nat) : Byte :=
  (s.mem.lookup a).getD (Config.unwrittenByte s.draws occ a)

/-! ### Matrix cells -/

/-- What a cell of a plane holds; none outside the plane, or when nothing has written it since reset (R37, R41). -/
def Plane.cell? (p : Plane) (r c : Nat) : Option Bool :=
  if h : r < 177 ∧ c < 177 then (p[r]'h.1)[c]'h.2 else none

/-- Writes one cell of a plane. -/
def Plane.put (p : Plane) (r c : Nat) (x : Bool) : Plane :=
  if h : r < 177 ∧ c < 177 then Vector.set p r (Vector.set (p[r]'h.1) c (some x) h.2) h.1 else p

/-- A plane whose every cell holds `x` (42_matrix.md R168). -/
def Plane.filled (x : Bool) : Plane := Vector.replicate 177 (Vector.replicate 177 (some x))

/-- A read of RSV[r][c]: what it holds, or a free draw (R41). -/
def readRsv (s : State) (r c : Nat) : Bool :=
  (s.planes.rsv.cell? r c).getD (Config.unwrittenRsv s.draws r c)

/-- A read of DARK[r][c]: what it holds, or a free draw (R41). -/
def readDark (s : State) (r c : Nat) : Bool :=
  (s.planes.dark.cell? r c).getD (Config.unwrittenDark s.draws r c)

/-- One "set (r, c) to x" of 42_matrix.md: `DARK[r][c] <- x; RSV[r][c] <- 1`. -/
structure Stamp where
  row  : Nat
  col  : Nat
  dark : Bool
deriving DecidableEq, Repr

/-- A list of stamps, done in order. -/
def Planes.stamp (p : Planes) (l : List Stamp) : Planes where
  dark := l.foldl (fun d st => Plane.put d st.row st.col st.dark) p.dark
  rsv  := l.foldl (fun d st => Plane.put d st.row st.col true) p.rsv

/-! ### Registers and field updates -/

/-- RESULT <- v (R30). -/
def State.setResult (v : Byte) (s : State) : State := { s with result := v }

/-- The buffers become `m`; the reads that led to it were one draw (log 21). -/
def State.setMem (m : Memory) (s : State) : State := { s with mem := m, draws := s.draws + 1 }

/-- The planes become `p`. -/
def State.setPlanes (p : Planes) (s : State) : State := { s with planes := p }

/-- The next free draw is a fresh one (R41; log 5). -/
def State.nextDraw (s : State) : State := { s with draws := s.draws + 1 }

/-- STATUS.SYNZ <- x (R23, R142). -/
def State.setSynz (x : Bool) (s : State) : State := { s with status := { s.status with synz := x } }

/-- STATUS.OVR <- 1 (R23, R225, R254). -/
def State.setOvr (s : State) : State := { s with status := { s.status with ovr := true } }

/-! ### How a command ends (60_exceptions.md R220 to R222) -/

/-- `done` on the state: STATUS.DONE <- 1, STATUS.BUSY <- 0 (R221). -/
def State.finish (s : State) : State :=
  { s with status := { s.status with done := true }, running := none }

/-- `raise Error(code)` on the state: ERRCODE <- code, STATUS.ERR <- 1, STATUS.BUSY <- 0, nothing else (R222). -/
def State.fail (code : ErrCode) (s : State) : State :=
  { s with errcode := code, status := { s.status with err := true }, running := none }

/-- The successful end of a command (R221). -/
def succeed (s : State) : Result := .next s.finish

/-- The failing end of a command: the one way an error is taken (R222, R227). There is no return from it: the host
acknowledges through STATUS (R228, Machine/Flags.lean). -/
def raise (code : ErrCode) (s : State) : Result := .next (s.fail code)

/-! ### Accepting a command (R25) and reset (R250 to R252) -/

/-- An accepted CMD write: BUSY <- 1 and the word becomes the command in progress, to end after a finite time (R25,
R258). -/
def State.accept (w : Word) (s : State) : State :=
  { s with running := some ⟨w, Config.latency s.draws w⟩, draws := s.draws + 1 }

/-- Either reset (R251): every register and buffer of QRC as after reset, the command in progress abandoned. The host's
side, `script`, `rdata` and `draws`, is not QRC's and stays (log 12). -/
def State.resetCore (s : State) : State :=
  { State.reset with script := s.script, rdata := s.rdata, draws := s.draws }

end Sys2Proof.Machine
end

