-- ==== Sys2Proof/Machine/Tables.lean ====
section
/-! DEFINITION. The read-only tables of rule R38 (10_state.md): EXP and LOG (40_gf.md R111, R112), STRUCT (41_rs.md
R130), ALIGN, VERINFO and FORMAT (42_matrix.md R162, R170, R178), with the spec's values (log 14). GEN (R115) is
computed from its definition in Machine/Gf.lean. -/

namespace Sys2Proof.Machine

/-- Entry `i` of a table of 256 entries written as the spec prints it: row = high hex digit, column = low. -/
def hexTableAt (rows : List (List Nat)) (i : Nat) : Nat :=
  (rows.getD (i / 16) []).getD (i % 16) 0

/-- The antilog table EXP[0..255], R111. -/
def expRowsLow : List (List Nat) :=
  [ [0x01, 0x02, 0x04, 0x08, 0x10, 0x20, 0x40, 0x80, 0x1D, 0x3A, 0x74, 0xE8, 0xCD, 0x87, 0x13, 0x26],
    [0x4C, 0x98, 0x2D, 0x5A, 0xB4, 0x75, 0xEA, 0xC9, 0x8F, 0x03, 0x06, 0x0C, 0x18, 0x30, 0x60, 0xC0],
    [0x9D, 0x27, 0x4E, 0x9C, 0x25, 0x4A, 0x94, 0x35, 0x6A, 0xD4, 0xB5, 0x77, 0xEE, 0xC1, 0x9F, 0x23],
    [0x46, 0x8C, 0x05, 0x0A, 0x14, 0x28, 0x50, 0xA0, 0x5D, 0xBA, 0x69, 0xD2, 0xB9, 0x6F, 0xDE, 0xA1],
    [0x5F, 0xBE, 0x61, 0xC2, 0x99, 0x2F, 0x5E, 0xBC, 0x65, 0xCA, 0x89, 0x0F, 0x1E, 0x3C, 0x78, 0xF0],
    [0xFD, 0xE7, 0xD3, 0xBB, 0x6B, 0xD6, 0xB1, 0x7F, 0xFE, 0xE1, 0xDF, 0xA3, 0x5B, 0xB6, 0x71, 0xE2],
    [0xD9, 0xAF, 0x43, 0x86, 0x11, 0x22, 0x44, 0x88, 0x0D, 0x1A, 0x34, 0x68, 0xD0, 0xBD, 0x67, 0xCE],
    [0x81, 0x1F, 0x3E, 0x7C, 0xF8, 0xED, 0xC7, 0x93, 0x3B, 0x76, 0xEC, 0xC5, 0x97, 0x33, 0x66, 0xCC] ]

/-- The antilog table EXP[0..255], R111. (second half). -/
def expRowsHigh : List (List Nat) :=
  [ [0x85, 0x17, 0x2E, 0x5C, 0xB8, 0x6D, 0xDA, 0xA9, 0x4F, 0x9E, 0x21, 0x42, 0x84, 0x15, 0x2A, 0x54],
    [0xA8, 0x4D, 0x9A, 0x29, 0x52, 0xA4, 0x55, 0xAA, 0x49, 0x92, 0x39, 0x72, 0xE4, 0xD5, 0xB7, 0x73],
    [0xE6, 0xD1, 0xBF, 0x63, 0xC6, 0x91, 0x3F, 0x7E, 0xFC, 0xE5, 0xD7, 0xB3, 0x7B, 0xF6, 0xF1, 0xFF],
    [0xE3, 0xDB, 0xAB, 0x4B, 0x96, 0x31, 0x62, 0xC4, 0x95, 0x37, 0x6E, 0xDC, 0xA5, 0x57, 0xAE, 0x41],
    [0x82, 0x19, 0x32, 0x64, 0xC8, 0x8D, 0x07, 0x0E, 0x1C, 0x38, 0x70, 0xE0, 0xDD, 0xA7, 0x53, 0xA6],
    [0x51, 0xA2, 0x59, 0xB2, 0x79, 0xF2, 0xF9, 0xEF, 0xC3, 0x9B, 0x2B, 0x56, 0xAC, 0x45, 0x8A, 0x09],
    [0x12, 0x24, 0x48, 0x90, 0x3D, 0x7A, 0xF4, 0xF5, 0xF7, 0xF3, 0xFB, 0xEB, 0xCB, 0x8B, 0x0B, 0x16],
    [0x2C, 0x58, 0xB0, 0x7D, 0xFA, 0xE9, 0xCF, 0x83, 0x1B, 0x36, 0x6C, 0xD8, 0xAD, 0x47, 0x8E, 0x01] ]

/-- The antilog table EXP[0..255], R111. (all of it). -/
def expRows : List (List Nat) := expRowsLow ++ expRowsHigh

/-- The log table LOG[1..255], R112; the first slot stands for the entry that does not exist and is never read. -/
def logRowsLow : List (List Nat) :=
  [ [0x00, 0x00, 0x01, 0x19, 0x02, 0x32, 0x1A, 0xC6, 0x03, 0xDF, 0x33, 0xEE, 0x1B, 0x68, 0xC7, 0x4B],
    [0x04, 0x64, 0xE0, 0x0E, 0x34, 0x8D, 0xEF, 0x81, 0x1C, 0xC1, 0x69, 0xF8, 0xC8, 0x08, 0x4C, 0x71],
    [0x05, 0x8A, 0x65, 0x2F, 0xE1, 0x24, 0x0F, 0x21, 0x35, 0x93, 0x8E, 0xDA, 0xF0, 0x12, 0x82, 0x45],
    [0x1D, 0xB5, 0xC2, 0x7D, 0x6A, 0x27, 0xF9, 0xB9, 0xC9, 0x9A, 0x09, 0x78, 0x4D, 0xE4, 0x72, 0xA6],
    [0x06, 0xBF, 0x8B, 0x62, 0x66, 0xDD, 0x30, 0xFD, 0xE2, 0x98, 0x25, 0xB3, 0x10, 0x91, 0x22, 0x88],
    [0x36, 0xD0, 0x94, 0xCE, 0x8F, 0x96, 0xDB, 0xBD, 0xF1, 0xD2, 0x13, 0x5C, 0x83, 0x38, 0x46, 0x40],
    [0x1E, 0x42, 0xB6, 0xA3, 0xC3, 0x48, 0x7E, 0x6E, 0x6B, 0x3A, 0x28, 0x54, 0xFA, 0x85, 0xBA, 0x3D],
    [0xCA, 0x5E, 0x9B, 0x9F, 0x0A, 0x15, 0x79, 0x2B, 0x4E, 0xD4, 0xE5, 0xAC, 0x73, 0xF3, 0xA7, 0x57] ]

/-- The log table LOG[1..255], R112; the first slot stands for the entry that does not exist and is never read. (second half). -/
def logRowsHigh : List (List Nat) :=
  [ [0x07, 0x70, 0xC0, 0xF7, 0x8C, 0x80, 0x63, 0x0D, 0x67, 0x4A, 0xDE, 0xED, 0x31, 0xC5, 0xFE, 0x18],
    [0xE3, 0xA5, 0x99, 0x77, 0x26, 0xB8, 0xB4, 0x7C, 0x11, 0x44, 0x92, 0xD9, 0x23, 0x20, 0x89, 0x2E],
    [0x37, 0x3F, 0xD1, 0x5B, 0x95, 0xBC, 0xCF, 0xCD, 0x90, 0x87, 0x97, 0xB2, 0xDC, 0xFC, 0xBE, 0x61],
    [0xF2, 0x56, 0xD3, 0xAB, 0x14, 0x2A, 0x5D, 0x9E, 0x84, 0x3C, 0x39, 0x53, 0x47, 0x6D, 0x41, 0xA2],
    [0x1F, 0x2D, 0x43, 0xD8, 0xB7, 0x7B, 0xA4, 0x76, 0xC4, 0x17, 0x49, 0xEC, 0x7F, 0x0C, 0x6F, 0xF6],
    [0x6C, 0xA1, 0x3B, 0x52, 0x29, 0x9D, 0x55, 0xAA, 0xFB, 0x60, 0x86, 0xB1, 0xBB, 0xCC, 0x3E, 0x5A],
    [0xCB, 0x59, 0x5F, 0xB0, 0x9C, 0xA9, 0xA0, 0x51, 0x0B, 0xF5, 0x16, 0xEB, 0x7A, 0x75, 0x2C, 0xD7],
    [0x4F, 0xAE, 0xD5, 0xE9, 0xE6, 0xE7, 0xAD, 0xE8, 0x74, 0xD6, 0xF4, 0xEA, 0xA8, 0x50, 0x58, 0xAF] ]

/-- The log table LOG[1..255], R112; the first slot stands for the entry that does not exist and is never read. (all of it). -/
def logRows : List (List Nat) := logRowsLow ++ logRowsHigh

/-- D, B and E of one (version, level): a group of three columns of the structure table, R130. -/
structure LevelRow where
  data   : Nat
  blocks : Nat
  ecc    : Nat
deriving DecidableEq, Repr

/-- One row of the structure table, R130: S, RAW, T, REM and the four groups `D B E`. -/
structure VersionRow where
  size  : Nat
  raw   : Nat
  total : Nat
  rem   : Nat
  l : LevelRow
  m : LevelRow
  q : LevelRow
  h : LevelRow
deriving DecidableEq, Repr

/-- The group of a row that a level selects (R29, R130). -/
def VersionRow.atLevel (r : VersionRow) : Level → LevelRow
  | .L => r.l
  | .M => r.m
  | .Q => r.q
  | .H => r.h

/-- STRUCT, versions 1 to 10 (R130). -/
def structRows1 : List VersionRow :=
  [ ⟨21, 208, 26, 0, ⟨19, 1, 7⟩, ⟨16, 1, 10⟩, ⟨13, 1, 13⟩, ⟨9, 1, 17⟩⟩,
    ⟨25, 359, 44, 7, ⟨34, 1, 10⟩, ⟨28, 1, 16⟩, ⟨22, 1, 22⟩, ⟨16, 1, 28⟩⟩,
    ⟨29, 567, 70, 7, ⟨55, 1, 15⟩, ⟨44, 1, 26⟩, ⟨34, 2, 18⟩, ⟨26, 2, 22⟩⟩,
    ⟨33, 807, 100, 7, ⟨80, 1, 20⟩, ⟨64, 2, 18⟩, ⟨48, 2, 26⟩, ⟨36, 4, 16⟩⟩,
    ⟨37, 1079, 134, 7, ⟨108, 1, 26⟩, ⟨86, 2, 24⟩, ⟨62, 4, 18⟩, ⟨46, 4, 22⟩⟩,
    ⟨41, 1383, 172, 7, ⟨136, 2, 18⟩, ⟨108, 4, 16⟩, ⟨76, 4, 24⟩, ⟨60, 4, 28⟩⟩,
    ⟨45, 1568, 196, 0, ⟨156, 2, 20⟩, ⟨124, 4, 18⟩, ⟨88, 6, 18⟩, ⟨66, 5, 26⟩⟩,
    ⟨49, 1936, 242, 0, ⟨194, 2, 24⟩, ⟨154, 4, 22⟩, ⟨110, 6, 22⟩, ⟨86, 6, 26⟩⟩,
    ⟨53, 2336, 292, 0, ⟨232, 2, 30⟩, ⟨182, 5, 22⟩, ⟨132, 8, 20⟩, ⟨100, 8, 24⟩⟩,
    ⟨57, 2768, 346, 0, ⟨274, 4, 18⟩, ⟨216, 5, 26⟩, ⟨154, 8, 24⟩, ⟨122, 8, 28⟩⟩ ]

/-- STRUCT, versions 11 to 20 (R130). -/
def structRows2 : List VersionRow :=
  [ ⟨61, 3232, 404, 0, ⟨324, 4, 20⟩, ⟨254, 5, 30⟩, ⟨180, 8, 28⟩, ⟨140, 11, 24⟩⟩,
    ⟨65, 3728, 466, 0, ⟨370, 4, 24⟩, ⟨290, 8, 22⟩, ⟨206, 10, 26⟩, ⟨158, 11, 28⟩⟩,
    ⟨69, 4256, 532, 0, ⟨428, 4, 26⟩, ⟨334, 9, 22⟩, ⟨244, 12, 24⟩, ⟨180, 16, 22⟩⟩,
    ⟨73, 4651, 581, 3, ⟨461, 4, 30⟩, ⟨365, 9, 24⟩, ⟨261, 16, 20⟩, ⟨197, 16, 24⟩⟩,
    ⟨77, 5243, 655, 3, ⟨523, 6, 22⟩, ⟨415, 10, 24⟩, ⟨295, 12, 30⟩, ⟨223, 18, 24⟩⟩,
    ⟨81, 5867, 733, 3, ⟨589, 6, 24⟩, ⟨453, 10, 28⟩, ⟨325, 17, 24⟩, ⟨253, 16, 30⟩⟩,
    ⟨85, 6523, 815, 3, ⟨647, 6, 28⟩, ⟨507, 11, 28⟩, ⟨367, 16, 28⟩, ⟨283, 19, 28⟩⟩,
    ⟨89, 7211, 901, 3, ⟨721, 6, 30⟩, ⟨563, 13, 26⟩, ⟨397, 18, 28⟩, ⟨313, 21, 28⟩⟩,
    ⟨93, 7931, 991, 3, ⟨795, 7, 28⟩, ⟨627, 14, 26⟩, ⟨445, 21, 26⟩, ⟨341, 25, 26⟩⟩,
    ⟨97, 8683, 1085, 3, ⟨861, 8, 28⟩, ⟨669, 16, 26⟩, ⟨485, 20, 30⟩, ⟨385, 25, 28⟩⟩ ]

/-- STRUCT, versions 21 to 30 (R130). -/
def structRows3 : List VersionRow :=
  [ ⟨101, 9252, 1156, 4, ⟨932, 8, 28⟩, ⟨714, 17, 26⟩, ⟨512, 23, 28⟩, ⟨406, 25, 30⟩⟩,
    ⟨105, 10068, 1258, 4, ⟨1006, 9, 28⟩, ⟨782, 17, 28⟩, ⟨568, 23, 30⟩, ⟨442, 34, 24⟩⟩,
    ⟨109, 10916, 1364, 4, ⟨1094, 9, 30⟩, ⟨860, 18, 28⟩, ⟨614, 25, 30⟩, ⟨464, 30, 30⟩⟩,
    ⟨113, 11796, 1474, 4, ⟨1174, 10, 30⟩, ⟨914, 20, 28⟩, ⟨664, 27, 30⟩, ⟨514, 32, 30⟩⟩,
    ⟨117, 12708, 1588, 4, ⟨1276, 12, 26⟩, ⟨1000, 21, 28⟩, ⟨718, 29, 30⟩, ⟨538, 35, 30⟩⟩,
    ⟨121, 13652, 1706, 4, ⟨1370, 12, 28⟩, ⟨1062, 23, 28⟩, ⟨754, 34, 28⟩, ⟨596, 37, 30⟩⟩,
    ⟨125, 14628, 1828, 4, ⟨1468, 12, 30⟩, ⟨1128, 25, 28⟩, ⟨808, 34, 30⟩, ⟨628, 40, 30⟩⟩,
    ⟨129, 15371, 1921, 3, ⟨1531, 13, 30⟩, ⟨1193, 26, 28⟩, ⟨871, 35, 30⟩, ⟨661, 42, 30⟩⟩,
    ⟨133, 16411, 2051, 3, ⟨1631, 14, 30⟩, ⟨1267, 28, 28⟩, ⟨911, 38, 30⟩, ⟨701, 45, 30⟩⟩,
    ⟨137, 17483, 2185, 3, ⟨1735, 15, 30⟩, ⟨1373, 29, 28⟩, ⟨985, 40, 30⟩, ⟨745, 48, 30⟩⟩ ]

/-- STRUCT, versions 31 to 40 (R130). -/
def structRows4 : List VersionRow :=
  [ ⟨141, 18587, 2323, 3, ⟨1843, 16, 30⟩, ⟨1455, 31, 28⟩, ⟨1033, 43, 30⟩, ⟨793, 51, 30⟩⟩,
    ⟨145, 19723, 2465, 3, ⟨1955, 17, 30⟩, ⟨1541, 33, 28⟩, ⟨1115, 45, 30⟩, ⟨845, 54, 30⟩⟩,
    ⟨149, 20891, 2611, 3, ⟨2071, 18, 30⟩, ⟨1631, 35, 28⟩, ⟨1171, 48, 30⟩, ⟨901, 57, 30⟩⟩,
    ⟨153, 22091, 2761, 3, ⟨2191, 19, 30⟩, ⟨1725, 37, 28⟩, ⟨1231, 51, 30⟩, ⟨961, 60, 30⟩⟩,
    ⟨157, 23008, 2876, 0, ⟨2306, 19, 30⟩, ⟨1812, 38, 28⟩, ⟨1286, 53, 30⟩, ⟨986, 63, 30⟩⟩,
    ⟨161, 24272, 3034, 0, ⟨2434, 20, 30⟩, ⟨1914, 40, 28⟩, ⟨1354, 56, 30⟩, ⟨1054, 66, 30⟩⟩,
    ⟨165, 25568, 3196, 0, ⟨2566, 21, 30⟩, ⟨1992, 43, 28⟩, ⟨1426, 59, 30⟩, ⟨1096, 70, 30⟩⟩,
    ⟨169, 26896, 3362, 0, ⟨2702, 22, 30⟩, ⟨2102, 45, 28⟩, ⟨1502, 62, 30⟩, ⟨1142, 74, 30⟩⟩,
    ⟨173, 28256, 3532, 0, ⟨2812, 24, 30⟩, ⟨2216, 47, 28⟩, ⟨1582, 65, 30⟩, ⟨1222, 77, 30⟩⟩,
    ⟨177, 29648, 3706, 0, ⟨2956, 25, 30⟩, ⟨2334, 49, 28⟩, ⟨1666, 68, 30⟩, ⟨1276, 81, 30⟩⟩ ]

/-- STRUCT, the structure table (R130): the row of version v stands at index v − 1. -/
def structRows : List VersionRow := structRows1 ++ structRows2 ++ structRows3 ++ structRows4

/-- The row of version `v`; none when `v` is not in 1..40 (R28). -/
def structRow (v : Nat) : Option VersionRow :=
  if 1 ≤ v ∧ v ≤ 40 then structRows[v - 1]? else none

/-- ALIGN, versions 1 to 10 (R162). -/
def alignRows1 : List (List Nat) :=
  [ [],
    [6, 18],
    [6, 22],
    [6, 26],
    [6, 30],
    [6, 34],
    [6, 22, 38],
    [6, 24, 42],
    [6, 26, 46],
    [6, 28, 50] ]

/-- ALIGN, versions 11 to 20 (R162). -/
def alignRows2 : List (List Nat) :=
  [ [6, 30, 54],
    [6, 32, 58],
    [6, 34, 62],
    [6, 26, 46, 66],
    [6, 26, 48, 70],
    [6, 26, 50, 74],
    [6, 30, 54, 78],
    [6, 30, 56, 82],
    [6, 30, 58, 86],
    [6, 34, 62, 90] ]

/-- ALIGN, versions 21 to 30 (R162). -/
def alignRows3 : List (List Nat) :=
  [ [6, 28, 50, 72, 94],
    [6, 26, 50, 74, 98],
    [6, 30, 54, 78, 102],
    [6, 28, 54, 80, 106],
    [6, 32, 58, 84, 110],
    [6, 30, 58, 86, 114],
    [6, 34, 62, 90, 118],
    [6, 26, 50, 74, 98, 122],
    [6, 30, 54, 78, 102, 126],
    [6, 26, 52, 78, 104, 130] ]

/-- ALIGN, versions 31 to 40 (R162). -/
def alignRows4 : List (List Nat) :=
  [ [6, 30, 56, 82, 108, 134],
    [6, 34, 60, 86, 112, 138],
    [6, 30, 58, 86, 114, 142],
    [6, 34, 62, 90, 118, 146],
    [6, 30, 54, 78, 102, 126, 150],
    [6, 24, 50, 76, 102, 128, 154],
    [6, 28, 54, 80, 106, 132, 158],
    [6, 32, 58, 84, 110, 136, 162],
    [6, 26, 54, 82, 110, 138, 166],
    [6, 30, 58, 86, 114, 142, 170] ]

/-- ALIGN[v]: the alignment centre coordinates of version `v` (R162); version 1 has none. -/
def alignOf (v : Nat) : List Nat :=
  (alignRows1 ++ alignRows2 ++ alignRows3 ++ alignRows4).getD (v - 1) []

/-- VERINFO, versions 7 to 23 (R170). -/
def verinfoRows1 : List Nat :=
  [ 0x07C94, 0x085BC, 0x09A99, 0x0A4D3, 0x0BBF6, 0x0C762,
    0x0D847, 0x0E60D, 0x0F928, 0x10B78, 0x1145D, 0x12A17,
    0x13532, 0x149A6, 0x15683, 0x168C9, 0x177EC ]

/-- VERINFO, versions 24 to 40 (R170). -/
def verinfoRows2 : List Nat :=
  [ 0x18EC4, 0x191E1, 0x1AFAB, 0x1B08E, 0x1CC1A, 0x1D33F,
    0x1ED75, 0x1F250, 0x209D5, 0x216F0, 0x228BA, 0x2379F,
    0x24B0B, 0x2542E, 0x26A64, 0x27541, 0x28C69 ]

/-- VERINFO[v]: the 18-bit version code of version `v`, v in 7..40 (R170). -/
def verinfoOf (v : Nat) : Nat := (verinfoRows1 ++ verinfoRows2).getD (v - 7) 0

/-- FORMAT[level], one code for each mask 0..7 (R178). -/
def formatRow : Level → List Nat
  | .L => [0x77C4, 0x72F3, 0x7DAA, 0x789D, 0x662F, 0x6318, 0x6C41, 0x6976]
  | .M => [0x5412, 0x5125, 0x5E7C, 0x5B4B, 0x45F9, 0x40CE, 0x4F97, 0x4AA0]
  | .Q => [0x355F, 0x3068, 0x3F31, 0x3A06, 0x24B4, 0x2183, 0x2EDA, 0x2BED]
  | .H => [0x1689, 0x13BE, 0x1CE7, 0x19D0, 0x0762, 0x0255, 0x0D0C, 0x083B]

/-- FORMAT[level][mask]: the 15-bit format code (R178). -/
def formatOf (level : Level) (mask : Nat) : Nat := (formatRow level).getD mask 0

end Sys2Proof.Machine
end

