-- ==== Sys2Proof/Machine/Operands.lean ====
section
/-! DEFINITION. The operands of commands: OPA, OPB, the configuration CFG with the quantities D, B, E, T, S it selects
(00_scope.md R10), and the "needs version" check (30_encoding.md R93). -/

namespace Sys2Proof.Machine

/-- a = OPA[7:0] (R118 to R121). -/
def operandA (s : State) : Byte := s.opa

/-- b = OPB[7:0] (R118, R119). -/
def operandB (s : State) : Byte := s.opb

/-- The level that a 2-bit code of CFG.LEVEL names: 0 = L, 1 = M, 2 = Q, 3 = H (R29). -/
def Level.ofCode (code : Nat) : Level :=
  match code with
  | 0 => .L
  | 1 => .M
  | 2 => .Q
  | _ => .H

/-- The code of a level in CFG.LEVEL (R29). -/
def Level.code : Level → Nat
  | .L => 0
  | .M => 1
  | .Q => 2
  | .H => 3

/-- The per-(version, level) quantities of R10: version v, S, D, B, E, and REM of R130. -/
structure Geometry where
  version : Nat
  size    : Nat
  data    : Nat
  blocks  : Nat
  ecc     : Nat
  rem     : Nat
deriving DecidableEq, Repr

/-- T = D + B·E, the total codeword count (R10). -/
def Geometry.total (g : Geometry) : Nat := g.data + g.blocks * g.ecc

/-- SHORT = ⌊D/B⌋ (R131). -/
def Geometry.short (g : Geometry) : Nat := g.data / g.blocks

/-- NLONG = D mod B (R131). -/
def Geometry.nlong (g : Geometry) : Nat := g.data % g.blocks

/-- len(b) (R131): the last NLONG blocks have one codeword more. -/
def Geometry.len (g : Geometry) (b : Nat) : Nat :=
  g.short + (if b ≥ g.blocks - g.nlong then 1 else 0)

/-- start(b) (R131). -/
def Geometry.start (g : Geometry) (b : Nat) : Nat :=
  b * g.short + (b - (g.blocks - g.nlong))

/-- The quantities of a version and level; none when the version is not in 1..40 (R28, R130). -/
def geometryOf (version : Nat) (level : Level) : Option Geometry :=
  (structRow version).map fun row =>
    { version := version, size := row.size, data := (row.atLevel level).data,
      blocks := (row.atLevel level).blocks, ecc := (row.atLevel level).ecc, rem := row.rem }

/-- The quantities CFG selects; none when CFG.VERSION is invalid (R28). -/
def geometry (cfg : Cfg) : Option Geometry := geometryOf cfg.version.toNat cfg.level

/-- The first check of every "needs version" command: `if CFG.VERSION not in 1..40: raise Error(BAD_CONFIG)` (R28, R93,
R224); otherwise the command goes on with the quantities CFG selects. -/
def withGeometry (s : State) (body : Geometry → Result) : Result :=
  match geometry s.cfg with
  | none => raise .badConfig s
  | some g => body g

end Sys2Proof.Machine
end

