-- ==== Sys2Proof/Machine/Flags.lean ====
section
/-! DEFINITION. The words software sees of the status and configuration: STATUS with its W1C bits, ERRCODE, CTRL, CFG, the
geometry registers, and the interrupt output. -/

namespace Sys2Proof.Machine

/-- STATUS.BUSY: a command is in progress (R23, R25). -/
def State.busy (s : State) : Bool := s.running.isSome

/-- STATUS as read: bits 0 BUSY, 1 DONE, 2 ERR, 3 SYNZ, 4 OVR; 31:5 read 0 (R23). -/
def statusWord (s : State) : Word :=
  0#27 ++ BitVec.ofBool s.status.ovr ++ BitVec.ofBool s.status.synz ++ BitVec.ofBool s.status.err
    ++ BitVec.ofBool s.status.done ++ BitVec.ofBool s.busy

/-- A write of `v` to STATUS: DONE, ERR and OVR are cleared where `v` has 1; BUSY and SYNZ ignore it (R23, R228). This is
how an error or an end is acknowledged. -/
def acknowledge (v : Word) (s : State) : State :=
  { s with status :=
      { done := s.status.done && !v.getLsbD 1
        err  := s.status.err && !v.getLsbD 2
        synz := s.status.synz
        ovr  := s.status.ovr && !v.getLsbD 4 } }

/-- The code of an error in ERRCODE[3:0] (R223). -/
def ErrCode.code : ErrCode → Word
  | .none => 0
  | .illegalCmd => 1
  | .badConfig => 2
  | .logZero => 3
  | .badBlock => 4
  | .badArg => 5

/-- The interrupt output: CTRL.IE ∧ (STATUS.DONE ∨ STATUS.ERR) (R226). -/
def irq (s : State) : Bool := s.ie && (s.status.done || s.status.err)

/-- CTRL as read: bit 0 IE; SRST and the reserved bits read 0 (R22). -/
def ctrlWord (s : State) : Word := 0#31 ++ BitVec.ofBool s.ie

/-- CFG as read: VERSION in 5:0, LEVEL in 9:8, MASK in 18:16, the rest 0 (R26). -/
def cfgWord (cfg : Cfg) : Word :=
  0#13 ++ cfg.mask ++ 0#6 ++ BitVec.ofNat 2 cfg.level.code ++ 0#2 ++ cfg.version

/-- What a write of `v` leaves in CFG (R26 to R29). -/
def cfgOfWord (v : Word) : Cfg where
  version := v.extractLsb' 0 6
  level   := Level.ofCode (v.extractLsb' 8 2).toNat
  mask    := v.extractLsb' 16 3

/-- The constant ID (R21). -/
def idValue : Word := 0x51520001

/-- GEOM: S, B, E, REM from the low byte up; 0 when VERSION is invalid (R32). -/
def geomWord (cfg : Cfg) : Word :=
  match geometry cfg with
  | none => 0
  | some g => BitVec.ofNat 8 g.rem ++ BitVec.ofNat 8 g.ecc ++ BitVec.ofNat 8 g.blocks ++ BitVec.ofNat 8 g.size

/-- DLEN: D in 11:0; 0 when VERSION is invalid (R32). -/
def dlenWord (cfg : Cfg) : Word :=
  match geometry cfg with
  | none => 0
  | some g => 0#20 ++ BitVec.ofNat 12 g.data

/-- TLEN: T in 11:0; 0 when VERSION is invalid (R32). -/
def tlenWord (cfg : Cfg) : Word :=
  match geometry cfg with
  | none => 0
  | some g => 0#20 ++ BitVec.ofNat 12 g.total

/-- BLKINFO: SHORT in 7:0, NLONG in 15:8; 0 when VERSION is invalid (R32). -/
def blkinfoWord (cfg : Cfg) : Word :=
  match geometry cfg with
  | none => 0
  | some g => 0#16 ++ BitVec.ofNat 8 g.nlong ++ BitVec.ofNat 8 g.short

end Sys2Proof.Machine
end

