-- ==== Sys2Proof/Machine/Bus.lean ====
section
/-! DEFINITION. Host accesses (20_memory.md R60 to R68, 70_reset_and_hazards.md R252, R254): reads and writes of registers,
buffers and the matrix window, while the engine is idle and while it is busy. -/

namespace Sys2Proof.Machine

/-- The number of bytes of an access (R61, R62). -/
def Width.bytes : Width → Nat
  | .byte => 1
  | .half => 2
  | .word => 4

/-- The offset is a multiple of the access's width (R62, R64). -/
def aligned (w : Width) (a : Nat) : Bool := a % w.bytes == 0

/-- The regions of the address map (R60). -/
inductive Region where
  | registers
  | data
  | ecc
  | seq
  | synd
  | matrix
  | unmapped
deriving DecidableEq, Repr

/-- The region of an offset (R60). -/
def regionOf (a : Nat) : Region :=
  if a < 0x00034 then .registers
  else if a < 0x01000 then .unmapped
  else if a < 0x02000 then .data
  else if a < 0x03000 then .ecc
  else if a < 0x04000 then .seq
  else if a < 0x04020 then .synd
  else if a < 0x10000 then .unmapped
  else if a < 0x20000 then .matrix
  else .unmapped

/-! ### Reads -/

/-- The byte the matrix window shows for the cell (r, c): bit 0 DARK, bit 1 RSV; 0 outside the planes (R66). -/
def matrixByte (s : State) (r c : Nat) : Byte :=
  if r ≤ 176 ∧ c ≤ 176 then
    0#6 ++ BitVec.ofBool (readRsv s r c) ++ BitVec.ofBool (readDark s r c)
  else 0#8

/-- One byte of a host read outside the registers (R41, R65, R66); while BUSY = 1 any value (R67). -/
def hostReadByte (s : State) (a : Nat) : Byte :=
  match regionOf a with
  | .data => if s.busy then Config.busyByte s.draws a else readByte s 0 a
  | .ecc => if s.busy then Config.busyByte s.draws a else readByte s 0 a
  | .seq => if s.busy then Config.busyByte s.draws a else readByte s 0 a
  | .synd => if s.busy then Config.busyByte s.draws a else readByte s 0 a
  | .matrix =>
    if s.busy then Config.busyByte s.draws a
    else matrixByte s ((a - matrixBase) / 256) ((a - matrixBase) % 256)
  | .registers => 0#8
  | .unmapped => 0#8

/-- A register whose read while BUSY = 1 gives any value: RESULT and the geometry registers (R67). -/
def idleRegister (s : State) (a : Nat) (v : Word) : Word :=
  if s.busy then Config.busyRegister s.draws a else v

/-- A 32-bit read of the register at a word offset (R21 to R32). CMD reads 0 (R25). -/
def readRegister (s : State) (a : Nat) : Word :=
  match a with
  | 0x000 => idValue
  | 0x004 => ctrlWord s
  | 0x008 => statusWord s
  | 0x00C => s.errcode.code
  | 0x010 => 0
  | 0x014 => cfgWord s.cfg
  | 0x018 => s.opa.setWidth 32
  | 0x01C => s.opb.setWidth 32
  | 0x020 => idleRegister s a (s.result.setWidth 32)
  | 0x024 => idleRegister s a (geomWord s.cfg)
  | 0x028 => idleRegister s a (dlenWord s.cfg)
  | 0x02C => idleRegister s a (tlenWord s.cfg)
  | 0x030 => idleRegister s a (blkinfoWord s.cfg)
  | _ => 0

/-- The value of an aligned read outside the registers: its bytes, little-endian, zero above (R62, R63). -/
def readBytes (s : State) (w : Width) (a : Nat) : Word :=
  match w with
  | .byte => (hostReadByte s a).setWidth 32
  | .half => (hostReadByte s (a + 1) ++ hostReadByte s a).setWidth 32
  | .word => wordOfBytes (hostReadByte s a) (hostReadByte s (a + 1)) (hostReadByte s (a + 2)) (hostReadByte s (a + 3))

/-- What a host read returns (R61 to R67): 0 when misaligned (R64) or when a register is read by a byte or halfword
(R61). -/
def hostRead (s : State) (w : Width) (off : Offset) : Word :=
  if aligned w off.toNat then
    match regionOf off.toNat with
    | .registers => if w = .word then readRegister s off.toNat else 0
    | _ => readBytes s w off.toNat
  else 0

/-! ### Writes -/

/-- The bytes of a write, the one for the lowest offset first (R63). An access of n bytes carries n bytes, so of a value held
in 32 bits the low ones (DESIGN CHOICE, log 29). -/
def writtenBytes (w : Width) (v : Word) : List Byte :=
  match w with
  | .byte => [v.extractLsb' 0 8]
  | .half => [v.extractLsb' 0 8, v.extractLsb' 8 8]
  | .word => [v.extractLsb' 0 8, v.extractLsb' 8 8, v.extractLsb' 16 8, v.extractLsb' 24 8]

/-- A write of CTRL: SRST = 1 resets and IE is ignored (R252); otherwise IE takes bit 0 (R22). -/
def writeCtrl (v : Word) (s : State) : State :=
  if v.getLsbD 1 then s.resetCore else { s with ie := v.getLsbD 0 }

/-- A 32-bit write of the register at a word offset (R21 to R32); the read-only ones ignore it. -/
def writeRegister (v : Word) (a : Nat) (s : State) : State :=
  match a with
  | 0x004 => writeCtrl v s
  | 0x008 => acknowledge v s
  | 0x010 => s.accept v
  | 0x014 => { s with cfg := cfgOfWord v }
  | 0x018 => { s with opa := v.extractLsb' 0 8 }
  | 0x01C => { s with opb := v.extractLsb' 0 8 }
  | _ => s

/-- A host write that is not dropped (R61 to R65): no effect when misaligned, at a byte or halfword of a register, at an
unmapped offset or in a read-only region. -/
def performWrite (w : Width) (off : Offset) (v : Word) (s : State) : State :=
  if aligned w off.toNat then
    match regionOf off.toNat with
    | .registers => if w = .word then writeRegister v off.toNat s else s
    | .data => { s with mem := s.mem.storeBytes off.toNat (writtenBytes w v) }
    | .ecc => { s with mem := s.mem.storeBytes off.toNat (writtenBytes w v) }
    | .seq => { s with mem := s.mem.storeBytes off.toNat (writtenBytes w v) }
    | .synd => s
    | .matrix => s
    | .unmapped => s
  else s

/-- A host write: while BUSY = 1 it is dropped and sets OVR unless it is to CTRL or STATUS (R254). -/
def hostWrite (w : Width) (off : Offset) (v : Word) (s : State) : State :=
  if s.busy ∧ off ≠ 0x004 ∧ off ≠ 0x008 then s.setOvr else performWrite w off v s

/-! ### One host action -/

/-- Serves one action of the host or the platform on a state that no longer lists it. WAIT stays listed while BUSY reads
1 (R96; log 15). -/
def serve (op : HostOp) (s : State) : State :=
  match op with
  | .write w off v => hostWrite w off v s
  | .read w off => { s with rdata := hostRead s w off, draws := s.draws + 1 }
  | .wait => { s with rdata := statusWord s, script := if s.busy then .wait :: s.script else s.script }
  | .hardReset => s.resetCore

end Sys2Proof.Machine
end

