-- ==== Sys2Proof/Machine/Gf.lean ====
section
/-! DEFINITION. GF(256) arithmetic and the commands NOP, GF_ADD, GF_MUL, GF_LOG, GF_EXP, GF_GEN (40_gf.md). -/

namespace Sys2Proof.Machine

/-- EXP[e], e in 0..255 (R111). -/
def expOf (e : Nat) : Byte := BitVec.ofNat 8 (hexTableAt expRows e)

/-- LOG[a]; none for a = 0: "log of 0 is undefined and must be special-cased, never indexed" (R112). -/
def logOf (a : Byte) : Option Nat :=
  if a = 0#8 then none else some (hexTableAt logRows a.toNat)

/-- `a ⊕ b` (R114). -/
def gfAdd (a b : Byte) : Byte := a ^^^ b

/-- `a ⊗ b` (R113): 0 when an operand is 0, before any LOG lookup; else EXP[(LOG[a] + LOG[b]) mod 255]. -/
def gfMul (a b : Byte) : Byte :=
  match logOf a, logOf b with
  | some x, some y => expOf ((x + y) % 255)
  | none, _ => 0#8
  | some _, none => 0#8

/-- The product of a polynomial, coefficients from the highest degree down, and (x ⊕ root) (R115). -/
def mulByRoot (p : List Byte) (root : Byte) : List Byte :=
  List.zipWith gfAdd (p ++ [0#8]) (0#8 :: p.map (gfMul root))

/-- GEN[n]: the coefficients of g_n(x) = (x ⊕ α^0) … (x ⊕ α^(n−1)), highest degree first (R115). -/
def genPoly : Nat → List Byte
  | 0 => [1#8]
  | n + 1 => mulByRoot (genPoly n) (expOf (n % 255))

/-- GEN[n][k], the coefficient of x^(n−k) (R115). -/
def genCoeff (n k : Nat) : Byte := (genPoly n).getD k 0#8

/-- NOP (R117). -/
def execNop (s : State) : Result := succeed s

/-- GF_ADD (R118): RESULT <- OPA ⊕ OPB. -/
def execGfAdd (s : State) : Result :=
  succeed (s.setResult (gfAdd (operandA s) (operandB s)))

/-- GF_MUL (R119): RESULT <- OPA ⊗ OPB. -/
def execGfMul (s : State) : Result :=
  succeed (s.setResult (gfMul (operandA s) (operandB s)))

/-- GF_LOG (R120): RESULT <- LOG[OPA]; LOG_ZERO when OPA = 0. -/
def execGfLog (s : State) : Result :=
  match logOf (operandA s) with
  | none => raise .logZero s
  | some e => succeed (s.setResult (BitVec.ofNat 8 e))

/-- GF_EXP (R121): RESULT <- EXP[OPA]. -/
def execGfExp (s : State) : Result :=
  succeed (s.setResult (expOf (operandA s).toNat))

/-- GF_GEN n, k (R122): RESULT <- GEN[n][k]; BAD_ARG when n is outside 1..30 or k > n. -/
def execGfGen (n k : Nat) (s : State) : Result :=
  if n = 0 ∨ n > 30 ∨ k > n then raise .badArg s
  else succeed (s.setResult (genCoeff n k))

end Sys2Proof.Machine
end

