-- ==== Sys2Proof/Machine/Rs.lean ====
section
/-! DEFINITION. Reed-Solomon encoding and syndromes: RS_ECC, RS_ECC_ALL, RS_INTERLEAVE, RS_SYND, RS_ENCODE (41_rs.md).
A `…Body` is the effect of a command without its checks and without its `done`, as the compound commands use it. -/

namespace Sys2Proof.Machine

/-- One turn of the shift register (R134) for the data byte `m`: `g` holds GEN[E][1..E], `rem` holds rem[0..E−1]. -/
def remainderStep (g rem : List Byte) (m : Byte) : List Byte :=
  let f := gfAdd m (rem.headD 0#8)
  List.zipWith (fun x gi => gfAdd x (gfMul gi f)) (rem.tail ++ [0#8]) g

/-- `rsRemainder(m, E)`: the E correction codewords of a block (R134, and R133). -/
def rsRemainder (m : List Byte) (E : Nat) : List Byte :=
  m.foldl (remainderStep (genPoly E).tail) (List.replicate E 0#8)

/-- The data codewords of block `b`: DATA[start(b) .. start(b)+len(b)−1] (R131). -/
def dataBlock (s : State) (g : Geometry) (b : Nat) : List Byte :=
  (List.range (g.len b)).map fun j => readByte s 0 (dataBase + (g.start b + j))

/-- The correction codewords stored for block `b`: ECC[b·E .. b·E+E−1] (R132). -/
def eccBlock (s : State) (g : Geometry) (b : Nat) : List Byte :=
  (List.range g.ecc).map fun i => readByte s 0 (eccBase + (b * g.ecc + i))

/-- Writes the correction codewords of block `b`, computed from the DATA of `s`, into `m` (R132, R136). -/
def storeEcc (s : State) (g : Geometry) (m : Memory) (b : Nat) : Memory :=
  m.storeBytes (eccBase + b * g.ecc) (rsRemainder (dataBlock s g b) g.ecc)

/-- The effect of RS_ECC b (R136). -/
def eccBody (g : Geometry) (b : Nat) (s : State) : State :=
  s.setMem (storeEcc s g s.mem b)

/-- The effect of RS_ECC_ALL (R137): every block in turn. -/
def eccAllBody (g : Geometry) (s : State) : State :=
  s.setMem ((List.range g.blocks).foldl (storeEcc s g) s.mem)

/-- The data part of the final codeword sequence: byte index by byte index across the blocks, a block skipped once it is
exhausted (R138). -/
def interleaveData (s : State) (g : Geometry) : List Byte :=
  (List.range (g.short + (if g.nlong > 0 then 1 else 0))).flatMap fun i =>
    (List.range g.blocks).filterMap fun b =>
      if i < g.len b then some (readByte s 0 (dataBase + (g.start b + i))) else none

/-- The correction part of the final codeword sequence (R138). -/
def interleaveEcc (s : State) (g : Geometry) : List Byte :=
  (List.range g.ecc).flatMap fun i =>
    (List.range g.blocks).map fun b => readByte s 0 (eccBase + (b * g.ecc + i))

/-- The effect of RS_INTERLEAVE (R138, R139). -/
def interleaveBody (g : Geometry) (s : State) : State :=
  s.setMem (s.mem.storeBytes seqBase (interleaveData s g ++ interleaveEcc s g))

/-- The effect of RS_ENCODE (R140). -/
def encodeBody (g : Geometry) (s : State) : State :=
  interleaveBody g (eccAllBody g s)

/-- S_i of a received block c (R141): the ⊕ over j of c[j] ⊗ EXP[(i·(N−1−j)) mod 255]. -/
def syndrome (c : List Byte) (i : Nat) : Byte :=
  ((List.range c.length).map fun j =>
    gfMul (c.getD j 0#8) (expOf (i * (c.length - 1 - j) % 255))).foldl gfAdd 0#8

/-- The 32 bytes RS_SYND writes: S_0..S_(E−1), then zeros (R142). -/
def syndromes (c : List Byte) (E : Nat) : List Byte :=
  (List.range 32).map fun i => if i < E then syndrome c i else 0#8

/-- The effect of RS_SYND b (R142). -/
def syndBody (g : Geometry) (b : Nat) (s : State) : State :=
  let bytes := syndromes (dataBlock s g b ++ eccBlock s g b) g.ecc
  (s.setMem (s.mem.storeBytes syndBase bytes)).setSynz ((bytes.take g.ecc).all (· == 0#8))

/-- RS_ECC b (R136). -/
def execRsEcc (b : Nat) (s : State) : Result :=
  withGeometry s fun g =>
    if b ≥ g.blocks then raise .badBlock s else succeed (eccBody g b s)

/-- RS_ECC_ALL (R137). -/
def execRsEccAll (s : State) : Result :=
  withGeometry s fun g => succeed (eccAllBody g s)

/-- RS_INTERLEAVE (R139). -/
def execRsInterleave (s : State) : Result :=
  withGeometry s fun g => succeed (interleaveBody g s)

/-- RS_SYND b (R142). -/
def execRsSynd (b : Nat) (s : State) : Result :=
  withGeometry s fun g =>
    if b ≥ g.blocks then raise .badBlock s else succeed (syndBody g b s)

/-- RS_ENCODE (R140). -/
def execRsEncode (s : State) : Result :=
  withGeometry s fun g => succeed (encodeBody g s)

end Sys2Proof.Machine
end

