-- ==== Sys2Proof/Machine/Mx.lean ====
section
/-! DEFINITION. The symbol-matrix builder: MX_CLEAR, MX_TEMPLATE, MX_VERINFO, MX_PLACE, MX_FORMAT, MX_BUILD, and the whole
core, QR_ENCODE (42_matrix.md). Cells are pairs (r, c), S is the side of the symbol. -/

namespace Sys2Proof.Machine

/-- |a − b| of coordinates. -/
def absDiff (a b : Nat) : Nat := (a - b) + (b - a)

/-- d = max(|r − cr|, |c − cc|): which square ring round the centre (cr, cc) the cell (r, c) lies on (R161, R163). -/
def ringOf (cr cc r c : Nat) : Nat := max (absDiff r cr) (absDiff c cc)

/-- The cells (cr+dr, cc+dc) for dr, dc in −rad..rad that have no negative coordinate, row by row (R161, R163). -/
def squareCells (rad cr cc : Nat) : List (Nat × Nat) :=
  (List.range' (cr - rad) (cr + rad + 1 - (cr - rad))).flatMap fun r =>
    (List.range' (cc - rad) (cc + rad + 1 - (cc - rad))).map fun c => (r, c)

/-! ### Finders, alignment, timing, format cells (R161 to R167) -/

/-- The three finder centres (R161). -/
def finderCentres (S : Nat) : List (Nat × Nat) := [(3, 3), (3, S - 4), (S - 4, 3)]

/-- One finder pattern with its separator, clipped to the symbol (R161): dark for d in {0, 1, 3}. -/
def finderAt (S : Nat) (centre : Nat × Nat) : List Stamp :=
  ((squareCells 4 centre.1 centre.2).filter fun cell => cell.1 < S && cell.2 < S).map fun cell =>
    let d := ringOf centre.1 centre.2 cell.1 cell.2
    ⟨cell.1, cell.2, d == 0 || d == 1 || d == 3⟩

/-- The finder patterns and separators (R161). -/
def finderStamps (S : Nat) : List Stamp := (finderCentres S).flatMap (finderAt S)

/-- The cell lies in a finder's reserved zone, the 9×9 square round its centre (R161, 90_conflicts.md C8). -/
def inFinderZone (S r c : Nat) : Bool :=
  (finderCentres S).any fun centre => ringOf centre.1 centre.2 r c ≤ 4

/-- One alignment pattern (R163): dark but for the ring d = 1. -/
def alignmentAt (centre : Nat × Nat) : List Stamp :=
  (squareCells 2 centre.1 centre.2).map fun cell =>
    ⟨cell.1, cell.2, ringOf centre.1 centre.2 cell.1 cell.2 != 1⟩

/-- The alignment centres that are drawn: every ordered pair of coordinates whose footprint meets no finder zone
(R163). -/
def alignmentCentres (v S : Nat) : List (Nat × Nat) :=
  ((alignOf v).flatMap fun ar => (alignOf v).map fun ac => (ar, ac)).filter fun centre =>
    !(squareCells 2 centre.1 centre.2).any fun cell => inFinderZone S cell.1 cell.2

/-- The alignment patterns (R163). -/
def alignmentStamps (v S : Nat) : List Stamp := (alignmentCentres v S).flatMap alignmentAt

/-- The timing patterns along row 6 and column 6, i in 8..S−9, dark at even index (R164). -/
def timingStamps (S : Nat) : List Stamp :=
  (List.range' 8 (S - 16)).flatMap fun i => [⟨6, i, i % 2 == 0⟩, ⟨i, 6, i % 2 == 0⟩]

/-- The cell of format bit i in copy 1, F1(i) (R165). -/
def formatCell1 (i : Nat) : Nat × Nat :=
  if i ≤ 5 then (i, 8)
  else if i = 6 then (7, 8)
  else if i = 7 then (8, 8)
  else if i = 8 then (8, 7)
  else (8, 14 - i)

/-- The cell of format bit i in copy 2, F2(i) (R165). -/
def formatCell2 (S i : Nat) : Nat × Nat :=
  if i ≤ 5 then (8, S - 1 - i)
  else if i = 6 then (8, S - 7)
  else if i = 7 then (8, S - 8)
  else if i = 8 then (S - 7, 8)
  else (S - 15 + i, 8)

/-- The dark module's cell (R166). -/
def darkModule (S : Nat) : Nat × Nat := (S - 8, 8)

/-- "set cell to x". -/
def stampOf (cell : Nat × Nat) (x : Bool) : Stamp := ⟨cell.1, cell.2, x⟩

/-- The reservation of the format cells and the dark module, all Light (R167). -/
def reserveStamps (S : Nat) : List Stamp :=
  (List.range 15).flatMap (fun i => [stampOf (formatCell1 i) false, stampOf (formatCell2 S i) false])
    ++ [stampOf (darkModule S) false]

/-- Everything MX_TEMPLATE sets, in the order of R169. -/
def templateStamps (v S : Nat) : List Stamp :=
  finderStamps S ++ alignmentStamps v S ++ timingStamps S ++ reserveStamps S

/-! ### Version and format information (R170 to R172, R178 to R180) -/

/-- What MX_VERINFO sets (R171, R172): both blocks for v ≥ 7, nothing below. -/
def verinfoStamps (v S : Nat) : List Stamp :=
  if v ≥ 7 then
    (List.range 18).flatMap fun i =>
      [⟨i / 3, S - 11 + i % 3, (verinfoOf v).testBit i⟩, ⟨S - 11 + i % 3, i / 3, (verinfoOf v).testBit i⟩]
  else []

/-- What MX_FORMAT sets for the code `f` (R179): copy 1, copy 2 if it is written, and the dark module. -/
def formatStamps (copy2 : FormatCopy2) (f S : Nat) : List Stamp :=
  (List.range 15).flatMap (fun i =>
      stampOf (formatCell1 i) (f.testBit i) ::
        (match copy2 with
          | .write => [stampOf (formatCell2 S i) (f.testBit i)]
          | .omit => []))
    ++ [stampOf (darkModule S) true]

/-! ### Placement and mask (R173 to R177) -/

/-- The cells of the column pair `right`, `right − 1`: upward or downward, the right column first (R173). -/
def pairCells (S right : Nat) (up : Bool) : List (Nat × Nat) :=
  (List.range S).flatMap fun t =>
    let r := if up then S - 1 - t else t
    [(r, right), (r, right - 1)]

/-- The `while right >= 1` loop of R173; `fuel` bounds the number of column pairs. -/
def scanFrom (S : Nat) : (fuel right : Nat) → (up : Bool) → List (Nat × Nat)
  | 0, _, _ => []
  | fuel + 1, right, up =>
    if right < 1 then []
    else
      let right := if right = 6 then 5 else right
      pairCells S right up ++ scanFrom S fuel (right - 2) (!up)

/-- scanOrder(S) (R173). -/
def scanOrder (S : Nat) : List (Nat × Nat) := scanFrom S S (S - 1) true

/-- pred_m(r, c) (R174); m in 0..7. -/
def maskPred (m r c : Nat) : Nat :=
  match m with
  | 0 => (r + c) % 2
  | 1 => r % 2
  | 2 => c % 3
  | 3 => (r + c) % 3
  | 4 => (c / 3 + r / 2) % 2
  | 5 => (r * c) % 2 + (r * c) % 3
  | 6 => ((r * c) % 2 + (r * c) % 3) % 2
  | _ => ((r * c) % 3 + (r + c) % 2) % 2

/-- inv_m(r, c): 1 where the predicate is 0 (R174). -/
def maskInv (m r c : Nat) : Bool := maskPred m r c == 0

/-- bit(k) = SEQ[⌊k/8⌋][7 − (k mod 8)] (R175). -/
def streamBit (s : State) (k : Nat) : Bool :=
  (readByte s (k % 8) (seqBase + k / 8)).getLsbD (7 - k % 8)

/-- The loop of MX_PLACE (R177) over the cells still to visit, after `k` bits have been placed; `limit` is 8·T. -/
def placeCells (fill : RemainderFill) (reserved : Nat → Nat → Bool) (bit : Nat → Bool) (inv : Nat → Nat → Bool)
    (limit : Nat) : List (Nat × Nat) → (k : Nat) → Plane → Plane
  | [], _, dark => dark
  | (r, c) :: cells, k, dark =>
    if reserved r c then placeCells fill reserved bit inv limit cells k dark
    else if k < limit then
      placeCells fill reserved bit inv limit cells (k + 1) (Plane.put dark r c (bit k ^^ inv r c))
    else
      match fill with
      | .zeroMasked => placeCells fill reserved bit inv limit cells k (Plane.put dark r c (inv r c))
      | .leave => dark

/-! ### Effects of the commands -/

/-- The effect of MX_CLEAR (R168): every cell Light and unreserved. -/
def clearBody (s : State) : State := s.setPlanes ⟨Plane.filled false, Plane.filled false⟩

/-- The effect of MX_TEMPLATE (R169). -/
def templateBody (g : Geometry) (s : State) : State :=
  s.setPlanes (s.planes.stamp (templateStamps g.version g.size))

/-- The effect of MX_VERINFO (R172). -/
def verinfoBody (g : Geometry) (s : State) : State :=
  s.setPlanes (s.planes.stamp (verinfoStamps g.version g.size))

/-- The effect of MX_PLACE under REMAINDER_FILL = `fill` (R177); its reads of SEQ and RSV are one draw (log 21). -/
def placeBodyWith (fill : RemainderFill) (g : Geometry) (s : State) : State :=
  (s.setPlanes
    { s.planes with
      dark := placeCells fill (readRsv s) (streamBit s) (maskInv s.cfg.mask.toNat) (8 * g.total)
        (scanOrder g.size) 0 s.planes.dark }).nextDraw

/-- The effect of MX_PLACE on this implementation (R177). -/
def placeBody (g : Geometry) (s : State) : State := placeBodyWith Config.remainderFill g s

/-- The effect of MX_FORMAT under FORMAT_COPY2 = `copy2` (R179, R180): level and mask of CFG as it stands. -/
def formatBodyWith (copy2 : FormatCopy2) (g : Geometry) (s : State) : State :=
  s.setPlanes (s.planes.stamp (formatStamps copy2 (formatOf s.cfg.level s.cfg.mask.toNat) g.size))

/-- The effect of MX_FORMAT on this implementation (R180). -/
def formatBody (g : Geometry) (s : State) : State := formatBodyWith Config.formatCopy2 g s

/-- The effect of MX_BUILD (R181): clear, template, version information, placement, format information. -/
def buildBody (g : Geometry) (s : State) : State :=
  formatBody g (placeBody g (verinfoBody g (templateBody g (clearBody s))))

/-- MX_CLEAR (R168): needs no version. -/
def execMxClear (s : State) : Result := succeed (clearBody s)

/-- MX_TEMPLATE (R169). -/
def execMxTemplate (s : State) : Result :=
  withGeometry s fun g => succeed (templateBody g s)

/-- MX_VERINFO (R172). -/
def execMxVerinfo (s : State) : Result :=
  withGeometry s fun g => succeed (verinfoBody g s)

/-- MX_PLACE (R177). -/
def execMxPlace (s : State) : Result :=
  withGeometry s fun g => succeed (placeBody g s)

/-- MX_FORMAT (R180). -/
def execMxFormat (s : State) : Result :=
  withGeometry s fun g => succeed (formatBody g s)

/-- MX_BUILD (R181). -/
def execMxBuild (s : State) : Result :=
  withGeometry s fun g => succeed (buildBody g s)

/-- QR_ENCODE (R182): the body of RS_ENCODE, then the body of MX_BUILD. -/
def execQrEncode (s : State) : Result :=
  withGeometry s fun g => succeed (buildBody g (encodeBody g s))

end Sys2Proof.Machine
end

