-- ==== Sys2Proof/Machine/Dispatch.lean ====
section
/-! DEFINITION. exec: one arm for each command, each one call of its meaning (30_encoding.md R93). -/

namespace Sys2Proof.Machine

/-- What running a command that has been accepted does (R220). -/
def exec (i : Instr) (s : State) : Host.Outcome State Fault Refusal :=
  match i with
  | .nop => Sys2Proof.Machine.execNop s
  | .gfAdd => Sys2Proof.Machine.execGfAdd s
  | .gfMul => Sys2Proof.Machine.execGfMul s
  | .gfLog => Sys2Proof.Machine.execGfLog s
  | .gfExp => Sys2Proof.Machine.execGfExp s
  | .gfGen n k => Sys2Proof.Machine.execGfGen n k s
  | .rsEcc b => Sys2Proof.Machine.execRsEcc b s
  | .rsEccAll => Sys2Proof.Machine.execRsEccAll s
  | .rsInterleave => Sys2Proof.Machine.execRsInterleave s
  | .rsSynd b => Sys2Proof.Machine.execRsSynd b s
  | .rsEncode => Sys2Proof.Machine.execRsEncode s
  | .mxClear => Sys2Proof.Machine.execMxClear s
  | .mxTemplate => Sys2Proof.Machine.execMxTemplate s
  | .mxVerinfo => Sys2Proof.Machine.execMxVerinfo s
  | .mxPlace => Sys2Proof.Machine.execMxPlace s
  | .mxFormat => Sys2Proof.Machine.execMxFormat s
  | .mxBuild => Sys2Proof.Machine.execMxBuild s
  | .qrEncode => Sys2Proof.Machine.execQrEncode s

end Sys2Proof.Machine
end

