-- ==== Sys2Proof/Machine/Engine.lean ====
section
/-! DEFINITION. The two events a step can be: the end of the command in progress, and the service of a host access
(20_memory.md R70). -/

namespace Sys2Proof.Machine

/-- The engine carries out the accepted word (R25): the command it encodes, or ILLEGAL_CMD (R94, R224 item 2). -/
def runWord (w : Word) (s : State) : Result :=
  match decode w with
  | .ok i => exec i s
  | .error _ => raise .illegalCmd s

/-- The host's next access, if it has one; otherwise nothing happens: an idle QRC keeps all its state (R235; log 16). -/
def hostStep (s : State) : Result :=
  match s.script with
  | [] => .next s
  | op :: rest => .next (serve op { s with script := rest })

/-- One event while the command `r` is in progress: it ends, once its latency has passed or the host has no access to
make; until then one host access is served (R70, R254, R258). -/
def busyStep (r : Running) (s : State) : Result :=
  if r.wait = 0 ∨ s.script = [] then runWord r.word s
  else hostStep { s with running := some { r with wait := r.wait - 1 } }

/-- The command word in the low bits of a number (every bit above `nbits` is 0). -/
def commandWord (nbits w : Nat) : Word := BitVec.ofNat 32 (w % 2 ^ nbits)

end Sys2Proof.Machine
end

