-- ==== Sys2Proof/Machine/Step.lean ====
section
/-! DEFINITION. One step of the machine: one event of the total order of host accesses and command executions
(20_memory.md R70). -/

namespace Sys2Proof.Machine

/-- One event: of the command in progress if there is one, else of the host. -/
def step (s : State) : Host.Outcome State Fault Refusal :=
  match s.running with
  | some r => busyStep r s
  | none => hostStep s

/-- `s` with the command word `w` accepted, about to be carried out by the very next step. QRC fetches nothing (R31,
R60): its next command is the word the engine has accepted (R25, R39; log 1). -/
def State.withFetchWord (s : State) (nbits w : Nat) : State :=
  { s with running := some ⟨commandWord nbits w, 0⟩ }

end Sys2Proof.Machine
end

