-- ==== Sys2Proof/Machine/Assembler.lean ====
section
/-! DEFINITION. The host-script notation (30_encoding.md R96, R97): targets, operations and the pseudo-operations that
expand to them. A program of QRC is such a script; its expansion is a list of host actions. -/

namespace Sys2Proof.Machine

/-- The register names of a script (R96; 10_state.md R21 to R32). -/
inductive RegName where
  | ID
  | CTRL
  | STATUS
  | ERRCODE
  | CMD
  | CFG
  | OPA
  | OPB
  | RESULT
  | GEOM
  | DLEN
  | TLEN
  | BLKINFO
deriving DecidableEq, Repr

/-- The offset of a register (R21 to R32, R60). -/
def RegName.offset : RegName → Nat
  | .ID => 0x000
  | .CTRL => 0x004
  | .STATUS => 0x008
  | .ERRCODE => 0x00C
  | .CMD => 0x010
  | .CFG => 0x014
  | .OPA => 0x018
  | .OPB => 0x01C
  | .RESULT => 0x020
  | .GEOM => 0x024
  | .DLEN => 0x028
  | .TLEN => 0x02C
  | .BLKINFO => 0x030

/-- The buffers that LOAD can fill (R97). -/
inductive BufName where
  | DATA
  | ECC
  | SEQ
deriving DecidableEq, Repr

/-- The offset of a buffer's first byte (R60). -/
def BufName.base : BufName → Nat
  | .DATA => dataBase
  | .ECC => eccBase
  | .SEQ => seqBase

/-- A target `<t>` of R96. -/
inductive Target where
  | reg (r : RegName)
  | buf (b : BufName) (n : Nat)
  | synd (n : Nat)
  | mx (r c : Nat)
  | raw (off : Nat)
deriving DecidableEq, Repr

/-- The window offset of a target (R96). -/
def Target.offset : Target → Nat
  | .reg r => r.offset
  | .buf b n => b.base + n
  | .synd n => syndBase + n
  | .mx r c => matrixBase + 256 * r + c
  | .raw off => off

/-- The target names a byte of its buffer, a cell the window has room for, or an offset of the window. R96 gives the other
spellings no meaning; that the assembler refuses them is the model's choice (DESIGN CHOICE, log 28). -/
def Target.valid : Target → Bool
  | .reg _ => true
  | .buf _ n => decide (n < 4096)
  | .synd n => decide (n < 32)
  | .mx r c => decide (r < 256 ∧ c < 256)
  | .raw off => decide (off < 0x20000)

/-- A line of a script (R96, R97). -/
inductive Line where
  | wr (t : Target) (v : Nat)
  | wrh (t : Target) (v : Nat)
  | wrb (t : Target) (v : Nat)
  | rd (t : Target)
  | rdb (t : Target)
  | wait
  | command (i : Instr)
  | cfg (v : Nat) (level : Level) (m : Nat)
  | lda (x : Nat)
  | ldb (x : Nat)
  | load (b : BufName) (n : Nat) (bytes : List Byte)
  | ack
deriving DecidableEq, Repr

/-- The host's write of a number that fits the access, at an offset of the window; `storeLine` makes sure of both. -/
def writeOp (w : Width) (off v : Nat) : HostOp :=
  .write w (BitVec.ofNat 17 off) (BitVec.ofNat 32 v)

/-- A write line: none, an assembler error, where the target names no byte (log 28) or the value is wider than the access.
R96 gives MemWrite(t, n, v) no range for v; refusing the wider value is the model's choice for WR, WRH and WRB (DESIGN
CHOICE, log 29), and for LDA and LDB what "never silently truncates" of R97 asks (DEDUCED, log 30). -/
def storeLine (w : Width) (t : Target) (v : Nat) : Option (List HostOp) :=
  if t.valid = true ∧ v < 2 ^ (8 * w.bytes) then some [writeOp w t.offset v] else none

/-- A read line: none, an assembler error, where the target names no byte (log 28). -/
def loadLine (w : Width) (t : Target) : Option (List HostOp) :=
  if t.valid = true then some [.read w (BitVec.ofNat 17 t.offset)] else none

/-- `WR CMD, word` ; `WAIT` (R97). -/
def commandOps (i : Instr) : List HostOp :=
  [.write .word (BitVec.ofNat 17 RegName.CMD.offset) (encode i), .wait]

/-- The byte writes of `LOAD b+n, x0 x1 …` (R97). -/
def loadOps (off : Nat) : List Byte → List HostOp
  | [] => []
  | x :: xs => writeOp .byte off x.toNat :: loadOps (off + 1) xs

/-- The word that `CFG v, level, m` writes (R97). -/
def cfgNumber (v : Nat) (level : Level) (m : Nat) : Nat := v + level.code * 256 + m * 65536

/-- The host actions of a line; none where a pseudo-operation's argument does not fit its field (R97: "an assembler
error; the assembler never silently truncates"), or where `storeLine` or `loadLine` refuses. LOAD is refused where one of its
bytes lies past the end of the buffer (log 30), and where it lists no byte: R97's form has at least one, and refusing the line is
the model's choice (DESIGN CHOICE, log 32). -/
def Line.expand : Line → Option (List HostOp)
  | .wr t v => storeLine .word t v
  | .wrh t v => storeLine .half t v
  | .wrb t v => storeLine .byte t v
  | .rd t => loadLine .word t
  | .rdb t => loadLine .byte t
  | .wait => some [.wait]
  | .command i => if i.wellFormed then some (commandOps i) else none
  | .cfg v level m => if v < 64 ∧ m < 8 then storeLine .word (.reg .CFG) (cfgNumber v level m) else none
  | .lda x => storeLine .word (.reg .OPA) x
  | .ldb x => storeLine .word (.reg .OPB) x
  | .load b n bytes => if bytes ≠ [] ∧ n + bytes.length ≤ 4096 then some (loadOps (b.base + n) bytes) else none
  | .ack => storeLine .word (.reg .STATUS) 0x16

/-- The host actions of a script; none where a line is an assembler error. -/
def expandScript : List Line → Option (List HostOp)
  | [] => some []
  | l :: ls =>
    match l.expand, expandScript ls with
    | some ops, some rest => some (ops ++ rest)
    | _, _ => none

end Sys2Proof.Machine
end

