-- ==== Sys2Proof/Machine/HostStages.lean ====
section
/-! DEFINITION. The host's stages before and after QRC (48_host_stages.md): the version selector, the bit-stream encoder
and the encode contract. They are functions, not commands: no step calls them (R200; log 19). -/

namespace Sys2Proof.Machine

/-- The errors of `encode` (R207). -/
inductive EncodeError where
  | invalidArgument
  | unsupportedMode
  | capacityExceeded
deriving DecidableEq, Repr

/-- hdr(v): the bits of the byte-mode header (R201). -/
def headerBits (v : Nat) : Nat := if v ≤ 9 then 12 else 20

/-- D of a version and level; 0 for an invalid version (R130). -/
def dataCodewords (v : Nat) (level : Level) : Nat :=
  match geometryOf v level with
  | some g => g.data
  | none => 0

/-- A payload of n bytes fits version v at the level: `8*D >= hdr(v) + 8*n` (R202). -/
def fits (n : Nat) (level : Level) (v : Nat) : Bool :=
  decide (8 * dataCodewords v level ≥ headerBits v + 8 * n)

/-- `selectVersion(n, level)`: the first version of 1..40 that fits (R202); none is CapacityExceeded. -/
def selectVersion (n : Nat) (level : Level) : Option Nat :=
  (List.range' 1 40).find? (fits n level)

/-- The low `width` bits of a number, most significant first (R203). -/
def bitsOf (width n : Nat) : List Bool :=
  (List.range width).map fun i => n.testBit (width - 1 - i)

/-- Bits cut into bytes, the first bit being bit 7 of the first byte (R203). -/
def bytesOfBits : List Bool → List Byte
  | b7 :: b6 :: b5 :: b4 :: b3 :: b2 :: b1 :: b0 :: rest =>
    (BitVec.ofBool b7 ++ BitVec.ofBool b6 ++ BitVec.ofBool b5 ++ BitVec.ofBool b4 ++ BitVec.ofBool b3
      ++ BitVec.ofBool b2 ++ BitVec.ofBool b1 ++ BitVec.ofBool b0) :: bytesOfBits rest
  | _ => []

/-- The mode indicator 0100, the length and the payload (R203). -/
def headerAndPayload (data : List Byte) (v : Nat) : List Bool :=
  bitsOf 4 4 ++ bitsOf (if v ≤ 9 then 8 else 16) data.length ++ data.flatMap fun x => bitsOf 8 x.toNat

/-- The zero bits up to the next byte boundary, never past 8·D (R203). -/
def terminatorBits (len limit : Nat) : List Bool :=
  List.replicate (min ((8 - len % 8) % 8) (limit - len)) false

/-- The pad codewords 0xEC, 0x11, 0xEC, … (R203). -/
def padBytes (count : Nat) : List Byte :=
  (List.range count).map fun i => if i % 2 = 0 then 0xEC#8 else 0x11#8

/-- `bitStream(data, v, level)` (R203). -/
def bitStream (data : List Byte) (v : Nat) (level : Level) : Except EncodeError (List Byte) :=
  let D := dataCodewords v level
  let bits := headerAndPayload data v
  if bits.length > 8 * D then .error .capacityExceeded
  else
    let bytes := bytesOfBits (bits ++ terminatorBits bits.length (8 * D))
    .ok (bytes ++ padBytes (D - bytes.length))

/-- What `encode` is asked (R206, R207): the payload, the level as an enumerant (valid when 0..3, R29), an explicit
version or none for automatic, and whether byte mode is requested. -/
structure EncodeRequest where
  data     : List Byte
  level    : Nat
  version  : Option Nat
  byteMode : Bool
deriving DecidableEq, Repr

/-- The explicit version, where there is one, is in 1..40 (R207). -/
def EncodeRequest.versionValid (r : EncodeRequest) : Bool :=
  match r.version with
  | none => true
  | some v => decide (1 ≤ v ∧ v ≤ 40)

/-- The version the request selects (R206): the explicit one, else the first that fits (R202). -/
def EncodeRequest.chosenVersion (r : EncodeRequest) : Option Nat :=
  match r.version with
  | some v => some v
  | none => selectVersion r.data.length (Level.ofCode r.level)

/-- The checks of R207 in their order, then version and codewords (R206). -/
def EncodeRequest.prepare (r : EncodeRequest) : Except EncodeError (Nat × List Byte) :=
  if r.data = [] ∨ r.level > 3 ∨ r.versionValid = false then .error .invalidArgument
  else if r.byteMode = false then .error .unsupportedMode
  else
    match r.chosenVersion with
    | none => .error .capacityExceeded
    | some v =>
      match bitStream r.data v (Level.ofCode r.level) with
      | .ok cw => .ok (v, cw)
      | .error e => .error e

/-- The host script of `encode` once version and codewords are chosen (R206): CFG with mask 4, LOAD, QR_ENCODE. -/
def encodeOps (v : Nat) (level : Level) (cw : List Byte) : List HostOp :=
  writeOp .word RegName.CFG.offset (cfgNumber v level 4) :: loadOps dataBase cw ++ commandOps .qrEncode

/-- The host script of a request (R206), or why there is none (R207). -/
def EncodeRequest.script (r : EncodeRequest) : Except EncodeError (List HostOp) :=
  match r.prepare with
  | .error e => .error e
  | .ok (v, cw) => .ok (encodeOps v (Level.ofCode r.level) cw)

/-- One module of the ModuleMatrix, as the host reads it: bit 0 of the byte at MX(r, c) (R206). -/
def moduleDark (s : State) (r c : Nat) : Bool :=
  (hostRead s .byte (BitVec.ofNat 17 (matrixBase + 256 * r + c))).getLsbD 0

/-- The ModuleMatrix of a symbol of side S, row by row (R206). -/
def moduleMatrix (s : State) (S : Nat) : List (List Bool) :=
  (List.range S).map fun r => (List.range S).map fun c => moduleDark s r c

/-- What a host that ran `encode` reports when it fails: an error of R207, or the code of a QRC error that R207 gives no
name (DESIGN CHOICE, log 31). -/
inductive EncodeFailure where
  | host (e : EncodeError)
  | engine (code : Word)
deriving DecidableEq, Repr

/-- The report of an ERRCODE: BAD_CONFIG is "the same condition" as InvalidArgument (R207); for any other code R207 states
no name, and the code itself is reported (DESIGN CHOICE, log 31). -/
def reportOf (code : Word) : EncodeFailure :=
  if code = ErrCode.badConfig.code then .host .invalidArgument else .engine code

/-- STATUS.ERR as the host reads it (R206). -/
def errSeen (s : State) : Bool := (hostRead s .word (BitVec.ofNat 17 RegName.STATUS.offset)).getLsbD 2

/-- ERRCODE as the host reads it (R207). -/
def errcodeSeen (s : State) : Word := hostRead s .word (BitVec.ofNat 17 RegName.ERRCODE.offset)

/-- The last lines of R206, on the state in which the script has ended: `if STATUS.ERR: report`, else the ModuleMatrix of
the chosen version `v`. -/
def encodeReadback (v : Nat) (s : State) : Except EncodeFailure (List (List Bool)) :=
  if errSeen s then .error (reportOf (errcodeSeen s)) else .ok (moduleMatrix s (21 + 4 * (v - 1)))

/-- The host has no action left and no command is in progress. -/
def State.quiet (s : State) : Bool := s.script.isEmpty && s.running.isNone

/-- Steps until the script has ended, at most `fuel` of them; none where they do not suffice. -/
def runScript : (fuel : Nat) → State → Option State
  | 0, s => if s.quiet then some s else none
  | fuel + 1, s =>
    if s.quiet then some s
    else
      match step s with
      | .next t => runScript fuel t
      | .fault _ => none
      | .refused _ => none

/-- `encode(data, level, version)` on QRC (R206): what it answers, with the state it leaves. A request that fails the
checks leaves the state as it was (R207: the host "detects it before writing CFG"). None where `fuel` events do not
suffice. -/
def EncodeRequest.encode (fuel : Nat) (r : EncodeRequest) (s : State) :
    Option (State × Except EncodeFailure (List (List Bool))) :=
  match r.prepare with
  | .error e => some (s, .error (.host e))
  | .ok (v, cw) =>
    (runScript fuel { s with script := encodeOps v (Level.ofCode r.level) cw }).map fun t => (t, encodeReadback v t)

end Sys2Proof.Machine
end

