-- ==== Sys2Proof/Safety.lean ====
section
/-! DEFINITION. What claims mean by a good state and a good run. -/

namespace Sys2Proof.Safety

open Sys2Proof.Machine

/-- The invariant of the machine. -/
structure Inv (s : State) : Prop where
  /-- The buffers are in canonical form and hold only bytes that exist (20_memory.md R60). -/
  memory : s.mem.wf
  /-- An error that is signalled has a code (60_exceptions.md R222, R223: NONE is "never raised"). -/
  errorNamed : s.status.err = true → s.errcode ≠ .none
  /-- A cell whose RSV bit has been written has a written DARK bit (42_matrix.md: "set" writes both). -/
  reservedValued : ∀ r c, (s.planes.rsv.cell? r c).isSome = true → (s.planes.dark.cell? r c).isSome = true

/-- The step goes on: QRC has no third outcome (60_exceptions.md R220). -/
def Progresses (s : State) : Prop := ∃ t, step s = .next t

/-- Every DATA byte a command reads for block `b` has been written since reset (70_reset_and_hazards.md R253 item 4). -/
def DataWritten (s : State) (g : Geometry) (b : Nat) : Prop :=
  ∀ j < g.len b, (s.mem.lookup (dataBase + (g.start b + j))).isSome = true

/-- Every SEQ byte that MX_PLACE reads has been written since reset (R253 item 4). -/
def SeqWritten (s : State) (g : Geometry) : Prop :=
  ∀ k < g.total, (s.mem.lookup (seqBase + k)).isSome = true

/-- Every cell of the symbol has a written RSV bit (R253 item 5). -/
def RsvWritten (s : State) (g : Geometry) : Prop :=
  ∀ r < g.size, ∀ c < g.size, (s.planes.rsv.cell? r c).isSome = true

end Sys2Proof.Safety
end

