-- ==== Sys2Proof/Certificates/Slice0/Obligations.lean ====
section
/-! DEFINITION. The statements about QRC for the provers, with the notions of the spec they are said in (`Claims`): field
arithmetic on polynomials, the positional form of the template, the layout of the command table. -/

namespace Sys2Proof.Claims

open Sys2Proof.Machine

/-! ### Encoding notions -/

/-- The match and mask words of the eighteen commands (opcode_table.json; 30_encoding.md R91, R93). -/
def commandPatterns : List (Word × Word) :=
  [(0x00000000, 0xFFFFFFFF), (0x00000001, 0xFFFFFFFF), (0x00000002, 0xFFFFFFFF), (0x00000003, 0xFFFFFFFF),
   (0x00000004, 0xFFFFFFFF), (0x00000005, 0xFF0000FF)] ++
  [(0x00000010, 0xFFFF00FF), (0x00000011, 0xFFFFFFFF), (0x00000012, 0xFFFFFFFF), (0x00000013, 0xFFFF00FF),
   (0x00000014, 0xFFFFFFFF)] ++
  [(0x00000020, 0xFFFFFFFF), (0x00000021, 0xFFFFFFFF), (0x00000022, 0xFFFFFFFF), (0x00000023, 0xFFFFFFFF),
   (0x00000024, 0xFFFFFFFF), (0x00000025, 0xFFFFFFFF), (0x00000030, 0xFFFFFFFF)]

/-- The word matches no row of the command table (R94). -/
def Illegal (w : Word) : Prop := ∀ p ∈ commandPatterns, w &&& p.2 ≠ p.1

/-- The commands that need a valid CFG.VERSION (R93). -/
def NeedsVersion (i : Instr) : Prop :=
  (∃ b, i = .rsEcc b) ∨ i = .rsEccAll ∨ i = .rsInterleave ∨ (∃ b, i = .rsSynd b) ∨ i = .rsEncode ∨
    i = .mxTemplate ∨ i = .mxVerinfo ∨ i = .mxPlace ∨ i = .mxFormat ∨ i = .mxBuild ∨ i = .qrEncode

/-! ### Which command writes what (70_reset_and_hazards.md R257) -/

/-- RESULT's writers. -/
def WritesResult (i : Instr) : Prop :=
  i = .gfAdd ∨ i = .gfMul ∨ i = .gfLog ∨ i = .gfExp ∨ ∃ n k, i = .gfGen n k

/-- ECC's writers. -/
def WritesEcc (i : Instr) : Prop := (∃ b, i = .rsEcc b) ∨ i = .rsEccAll ∨ i = .rsEncode ∨ i = .qrEncode

/-- SEQ's writers. -/
def WritesSeq (i : Instr) : Prop := i = .rsInterleave ∨ i = .rsEncode ∨ i = .qrEncode

/-- SYND's and SYNZ's writer. -/
def WritesSynd (i : Instr) : Prop := ∃ b, i = .rsSynd b

/-- RSV's writers. -/
def WritesRsv (i : Instr) : Prop :=
  i = .mxClear ∨ i = .mxTemplate ∨ i = .mxVerinfo ∨ i = .mxFormat ∨ i = .mxBuild ∨ i = .qrEncode

/-- DARK's writers. -/
def WritesDark (i : Instr) : Prop := WritesRsv i ∨ i = .mxPlace

/-! ### States -/

/-- A host action is next: the engine is idle, or its latency has not passed (20_memory.md R70). -/
def HostIsNext (s : State) : Prop := s.running = none ∨ ∃ r, s.running = some r ∧ r.wait ≠ 0

/-- The action abandons a running command: the hard reset, or a word write of CTRL with SRST = 1 (R250, R252: "Soft reset is
the only way to abandon a running command"). -/
def IsReset (op : HostOp) : Prop := op = .hardReset ∨ ∃ v : Word, v.getLsbD 1 = true ∧ op = .write .word 0x004 v

/-- The number of an error in ERRCODE[3:0] (60_exceptions.md R223). -/
def errNumber : ErrCode → Nat
  | .none => 0
  | .illegalCmd => 1
  | .badConfig => 2
  | .logZero => 3
  | .badBlock => 4
  | .badArg => 5

/-- The number of a level in CFG[9:8] and in a request to `encode` (10_state.md R29). -/
def levelNumber : Level → Nat
  | .L => 0
  | .M => 1
  | .Q => 2
  | .H => 3

/-- The byte at a window offset is known to be `b`: a written buffer byte (R60), or the byte of a cell, written or outside the
planes (R66). -/
def HoldsByte (s : State) (a : Nat) (b : Byte) : Prop :=
  (0x1000 ≤ a ∧ a < 0x4020 ∧ s.mem.lookup a = some b) ∨
  ∃ r c, r < 256 ∧ c < 256 ∧ a = 0x10000 + 256 * r + c ∧
    ((r ≤ 176 ∧ c ≤ 176 ∧ ∃ dark rsv, s.planes.dark.cell? r c = some dark ∧ s.planes.rsv.cell? r c = some rsv ∧
        b.toNat = dark.toNat + 2 * rsv.toNat) ∨
      ((r > 176 ∨ c > 176) ∧ b = 0))

/-- `t` is `s` but for what the end of a successful command and the memory, planes, RESULT and SYNZ change. -/
def KeepsRegisters (s t : State) : Prop :=
  t.ie = s.ie ∧ t.cfg = s.cfg ∧ t.opa = s.opa ∧ t.opb = s.opb ∧ t.errcode = s.errcode ∧ t.script = s.script ∧
    t.rdata = s.rdata ∧ t.status.err = s.status.err ∧ t.status.ovr = s.status.ovr

/-- The successful end of a command that writes neither RESULT nor SYNZ (60_exceptions.md R221). -/
def EndsDone (s t : State) : Prop :=
  KeepsRegisters s t ∧ t.result = s.result ∧ t.running = none ∧ t.status.done = true ∧
    t.status.synz = s.status.synz

/-- Every byte outside `len` bytes from `base` reads as before. -/
def MemoryKeptOutside (s t : State) (base len : Nat) : Prop :=
  ∀ a, ¬(base ≤ a ∧ a < base + len) → t.mem.lookup a = s.mem.lookup a

/-- The model's data block `b` is DATA[start(b) .. start(b)+len(b)−1] (41_rs.md R131): it has len(b) bytes, and each of them
that has been written is the one in DATA. -/
def BlockIsInData (s : State) (g : Geometry) (b : Nat) : Prop :=
  (dataBlock s g b).length = g.len b ∧
    ∀ j < g.len b, ∀ x, s.mem.lookup (0x1000 + (g.start b + j)) = some x → (dataBlock s g b)[j]? = some x

/-- The model's correction block `b` is ECC[b·E .. b·E+E−1] (41_rs.md R132): it has E bytes, and each of them that has been
written is the one in ECC. -/
def BlockIsInEcc (s : State) (g : Geometry) (b : Nat) : Prop :=
  (eccBlock s g b).length = g.ecc ∧
    ∀ i < g.ecc, ∀ x, s.mem.lookup (0x2000 + (b * g.ecc + i)) = some x → (eccBlock s g b)[i]? = some x

/-! ### Polynomials over GF(2) and GF(256) (40_gf.md R110) -/

/-- x·a mod 0x11D. -/
def timesX (a : Byte) : Byte := if a.getLsbD 7 then (a <<< 1) ^^^ 0x1D#8 else a <<< 1

/-- The product of two bytes as polynomials over GF(2), reduced modulo 0x11D (R110, R113). -/
def polyProduct (a b : Byte) : Byte :=
  [7, 6, 5, 4, 3, 2, 1, 0].foldl (fun acc i => timesX acc ^^^ (if b.getLsbD i then a else 0#8)) 0#8

/-- α^e, α = 0x02 (R110). -/
def alphaPower : Nat → Byte
  | 0 => 1#8
  | e + 1 => timesX (alphaPower e)

/-- The value at x of the polynomial whose coefficients, highest degree first, are `p` (Horner's rule). -/
def polyValue (p : List Byte) (x : Byte) : Byte :=
  p.foldl (fun acc c => polyProduct acc x ^^^ c) 0#8

/-- The remainder of a polynomial over GF(2), of degree below d + fuel, by one of degree d. -/
def binaryRemainder (divisor d : Nat) : Nat → Nat → Nat
  | 0, x => x
  | fuel + 1, x =>
    binaryRemainder divisor d fuel (if x.testBit (d + fuel) then x ^^^ (divisor <<< fuel) else x)

/-- The 2-bit level indicator of the format information (42_matrix.md R178). -/
def levelIndicator : Level → Nat
  | .L => 1
  | .M => 0
  | .Q => 3
  | .H => 2

/-- The closed form of ALIGN[v], v ≥ 2 (R162). -/
def alignClosedForm (v : Nat) : List Nat :=
  let n := v / 7 + 2
  let step := 2 * ((8 * v + 3 * n + 5) / (4 * n - 4))
  6 :: (List.range (n - 1)).map fun i => 4 * v + 10 - (n - 2 - i) * step

/-- pred_m(r, c) = 0, where the module's bit is inverted (R174): the eight predicates in the order of their numbers. -/
def inverted (m r c : Nat) : Bool :=
  [(r + c) % 2, r % 2, c % 3, (r + c) % 3, (c / 3 + r / 2) % 2, r * c % 2 + r * c % 3, (r * c % 2 + r * c % 3) % 2,
    (r * c % 3 + (r + c) % 2) % 2].getD m 0 == 0

/-- The j-th cell of the scan of a symbol of side S (R173), j < S·(S−1): column pairs of 2·S cells from the right edge, one
column further left from column 6 on, the first upward, then alternating, the right cell of a row before the left one. -/
def scanCell (S j : Nat) : Nat × Nat :=
  let pair := j / (2 * S)
  let t := j % (2 * S) / 2
  let right := if S - 1 - 2 * pair ≤ 6 then S - 2 - 2 * pair else S - 1 - 2 * pair
  (if pair % 2 = 0 then S - 1 - t else t, right - j % 2)

/-- Copy 1 of the format information, bit 0 first (R165): column 8 rows 0 to 5, 7 and 8, then row 8 columns 7 and 5 to 0. -/
def strip1 : List (Nat × Nat) :=
  [(0, 8), (1, 8), (2, 8), (3, 8), (4, 8), (5, 8), (7, 8), (8, 8), (8, 7), (8, 5), (8, 4), (8, 3), (8, 2), (8, 1), (8, 0)]

/-- Copy 2 of the format information, bit 0 first (R165): row 8 columns S−1 down to S−8, then column 8 rows S−7 to S−1. -/
def strip2 (S : Nat) : List (Nat × Nat) :=
  [(8, S - 1), (8, S - 2), (8, S - 3), (8, S - 4), (8, S - 5), (8, S - 6), (8, S - 7), (8, S - 8), (S - 7, 8), (S - 6, 8),
    (S - 5, 8), (S - 4, 8), (S - 3, 8), (S - 2, 8), (S - 1, 8)]

/-- The `width` bits of a number, most significant first (48_host_stages.md R203). -/
def msbFirst (width n : Nat) : List Bool := (List.range width).map fun i => (BitVec.ofNat width n).getMsbD i

/-- What the bit stream begins with (R203): 0100, the length in 8 or 16 bits, the payload. -/
def streamHead (data : List Byte) (v : Nat) : List Bool :=
  [false, true, false, false] ++ msbFirst (if v ≤ 9 then 8 else 16) data.length ++
    data.flatMap fun x => msbFirst 8 x.toNat

/-- What the host's stages make of a request before QRC is started (R206, R207): the checks in their order, then the version
and the codewords. -/
def PrepareAnswers (r : EncodeRequest) : Prop :=
  (r.data = [] ∨ r.level > 3 ∨ (∃ v, r.version = some v ∧ (v = 0 ∨ v > 40)) → r.prepare = .error .invalidArgument) ∧
  ∀ l : Level, r.data ≠ [] → r.level = levelNumber l → (∀ v, r.version = some v → 1 ≤ v ∧ v ≤ 40) →
    (r.byteMode = false → r.prepare = .error .unsupportedMode) ∧
    (r.byteMode = true →
      (r.version = none → selectVersion r.data.length l = none → r.prepare = .error .capacityExceeded) ∧
      ∀ v, (r.version = some v ∨ (r.version = none ∧ selectVersion r.data.length l = some v)) →
        (8 * dataCodewords v l < headerBits v + 8 * r.data.length → r.prepare = .error .capacityExceeded) ∧
        (8 * dataCodewords v l ≥ headerBits v + 8 * r.data.length →
          ∃ cw, bitStream r.data v l = .ok cw ∧ r.prepare = .ok (v, cw)))

/-! ### The template, cell by cell (42_matrix.md R161 to R167) -/

/-- The value MX_TEMPLATE gives the cell (r, c) of a symbol of version v and side S; none where it writes nothing. -/
def templateCell (v S r c : Nat) : Option Bool :=
  if ¬(r < S ∧ c < S) then none
  else
    match (finderCentres S).find? fun f => decide (ringOf f.1 f.2 r c ≤ 4) with
    | some f => some (ringOf f.1 f.2 r c ≠ 2 ∧ ringOf f.1 f.2 r c ≠ 4)
    | none =>
      match (alignmentCentres v S).find? fun f => decide (ringOf f.1 f.2 r c ≤ 2) with
      | some f => some (ringOf f.1 f.2 r c ≠ 1)
      | none =>
        if r = 6 ∧ 8 ≤ c ∧ c ≤ S - 9 then some (c % 2 = 0)
        else if c = 6 ∧ 8 ≤ r ∧ r ≤ S - 9 then some (r % 2 = 0)
        else if (r, c) ∈ strip1 ∨ (r, c) ∈ strip2 S ∨ (r, c) = (S - 8, 8) then some false
        else none

/-- The value MX_VERINFO gives the cell (r, c) for v ≥ 7 (R171): block A left of the top-right separator, block B above the
bottom-left one. -/
def verinfoCell (v S r c : Nat) : Option Bool :=
  if v < 7 then none
  else if r < 6 ∧ S - 11 ≤ c ∧ c ≤ S - 9 then some ((verinfoOf v).testBit (3 * r + (c - (S - 11))))
  else if c < 6 ∧ S - 11 ≤ r ∧ r ≤ S - 9 then some ((verinfoOf v).testBit (3 * c + (r - (S - 11))))
  else none

/-- The cells MX_PLACE can write, in scan order: those the RSV plane does not reserve (R177). -/
def openCells (s : State) (g : Geometry) : List (Nat × Nat) :=
  (scanOrder g.size).filter fun cell => !readRsv s cell.1 cell.2

/-- How many cells of a symbol of side S have RSV = 1. -/
def reservedCount (s : State) (S : Nat) : Nat :=
  ((List.range S).map fun r => (List.range S).countP fun c => s.planes.rsv.cell? r c == some true).sum

end Sys2Proof.Claims

open Sys2Proof Sys2Proof.Machine Sys2Proof.Claims Sys2Proof.Safety

/-! ### Encoding -/

/-- R90 to R93: no bit of an encoding is dropped. -/
def Obligations.DecodeEncodeRoundTrip : Prop :=
  ∀ i : Instr, i.wellFormed = true → decode (encode i) = .ok i

/-- R90 to R95: a word that decodes is the one word of its command. -/
def Obligations.DecodedWordIsItsEncoding : Prop :=
  ∀ (w : Word) (i : Instr), decode w = .ok i → i.wellFormed = true ∧ encode i = w

/-- R94: which words are illegal, and that an accepted one ends with ILLEGAL_CMD whatever the rest of the state. That the
command ends in the step where `wait` is 0 or the script is empty is the model's choice (DESIGN CHOICE, log 3). -/
def Obligations.IllegalWordsRaiseIllegalCmd : Prop :=
  (∀ w : Word, (∃ e, decode w = .error e) ↔ Illegal w) ∧
  ∀ (s : State) (r : Running), s.running = some r → (r.wait = 0 ∨ s.script = []) → Illegal r.word →
    step s = .next { s with
      errcode := .illegalCmd, status := { s.status with err := true }, running := none }

/-- R98: the worked encodings. -/
def Obligations.WorkedEncodings : Prop :=
  decode 0x00000002 = .ok .gfMul ∧ decode 0x00000310 = .ok (.rsEcc 3) ∧ decode 0x00000013 = .ok (.rsSynd 0) ∧
  decode 0x00010705 = .ok (.gfGen 7 1) ∧ decode 0x00000030 = .ok .qrEncode ∧
  (Line.cfg 1 .M 4).expand = some [.write .word 0x014 0x00040101] ∧
  (Line.cfg 7 .H 4).expand = some [.write .word 0x014 0x00040307] ∧
  Illegal 0x00000102 ∧ Illegal 0x01000010 ∧ Illegal 0x00000006

/-! ### Steps -/

/-- R25, R70: when the command in progress is about to end, the step is exec of the command its word encodes. -/
def Obligations.StepRunsTheDecodedCommand : Prop :=
  ∀ (s : State) (r : Running) (i : Instr), s.running = some r → (r.wait = 0 ∨ s.script = []) →
    decode r.word = .ok i → step s = exec i s

/-- R25: an accepted CMD write sets BUSY and starts the command the word encodes; one while BUSY = 1 is dropped and sets
OVR; CMD reads 0; after reset no command is in progress. -/
def Obligations.CmdWriteAcceptedOrDropped : Prop :=
  (∀ (s : State) (w : Word) (rest : List HostOp), s.running = none → s.script = .write .word 0x010 w :: rest →
    ∃ k, step s = .next { s with script := rest, running := some ⟨w, k⟩, draws := s.draws + 1 }) ∧
  (∀ (s : State) (r : Running) (w : Word) (rest : List HostOp), s.running = some r → r.wait ≠ 0 →
    s.script = .write .word 0x010 w :: rest →
    step s = .next { s with
      script := rest, running := some ⟨r.word, r.wait - 1⟩, status := { s.status with ovr := true } }) ∧
  (∀ s : State, hostRead s .word 0x010 = 0) ∧ State.reset.running = none

/-- R220 to R222: every command ends, either successfully, with ERR and ERRCODE as they were, or with an error that
changes nothing but ERRCODE, ERR and BUSY. -/
def Obligations.CommandsEndInOneOfTwoWays : Prop :=
  ∀ (i : Instr) (s : State), ∃ t, exec i s = .next t ∧
    ((t.running = none ∧ t.status.done = true ∧ t.status.err = s.status.err ∧ t.errcode = s.errcode) ∨
      ∃ code, code ≠ .none ∧ t = { s with
        errcode := code, status := { s.status with err := true }, running := none })

/-- R220, R227: there is no third outcome: every step of every state goes on. -/
def Obligations.EveryStepGoesOn : Prop := ∀ s : State, Progresses s

/-- R220, R258: a command in progress ends after finitely many events (or a reset abandons it), and no later than the
accesses its latency allows. -/
def Obligations.CommandEndsWithinItsLatency : Prop :=
  ∀ (s : State) (r : Running), s.running = some r →
    ∃ k, k ≤ r.wait + 1 ∧ ∃ t, Sys2Proof.core.run k s = .next t ∧ t.running = none

/-- R254, R252: while a command runs, the host's accesses leave everything the command reads as it was when its CMD write was
accepted; only a reset abandons it. That an access counts `wait` down by one is the model's choice (DESIGN CHOICE, log 3). -/
def Obligations.BusyAccessesLeaveCommandInputsAlone : Prop :=
  ∀ (s t : State) (r : Running) (op : HostOp) (rest : List HostOp), s.running = some r → r.wait ≠ 0 →
    s.script = op :: rest → step s = .next t →
    (IsReset op ∧ t.running = none) ∨
      (¬IsReset op ∧ t.running = some ⟨r.word, r.wait - 1⟩ ∧ t.cfg = s.cfg ∧ t.opa = s.opa ∧ t.opb = s.opb ∧
        t.result = s.result ∧ t.mem = s.mem ∧ t.planes = s.planes ∧ t.errcode = s.errcode ∧
        t.status.synz = s.status.synz)

/-! ### Invariant and reset -/

/-- Every step keeps the invariant: buffers canonical and within the bytes that exist (R60), a signalled error named (R222,
R223), a reserved cell's value written (R160). -/
def Obligations.StepKeepsTheInvariant : Prop :=
  ∀ s t : State, Inv s → step s = .next t → Inv t

/-- The invariant holds right after reset. -/
def Obligations.ResetHasTheInvariant : Prop := Inv State.reset

/-- R40: what reset leaves, as the host reads it. -/
def Obligations.ResetValues : Prop :=
  let s := State.reset
  hostRead s .word 0x000 = 0x51520001 ∧ hostRead s .word 0x004 = 0 ∧ hostRead s .word 0x008 = 0 ∧
  hostRead s .word 0x00C = 0 ∧ hostRead s .word 0x010 = 0 ∧ hostRead s .word 0x014 = 0x00040001 ∧ hostRead s .word 0x018 = 0 ∧
  hostRead s .word 0x01C = 0 ∧ hostRead s .word 0x020 = 0 ∧ hostRead s .word 0x024 = 0x00070115 ∧
  hostRead s .word 0x028 = 19 ∧ hostRead s .word 0x02C = 26 ∧ hostRead s .word 0x030 = 0x13 ∧
  (∀ a, s.mem.lookup a = none) ∧
  (∀ r c, s.planes.dark.cell? r c = none ∧ s.planes.rsv.cell? r c = none) ∧
  s.running = none ∧ irq s = false

/-- R251, R252: either reset, at any time, gives every register its reset value, abandons the command in progress and
leaves every buffer byte and plane bit unspecified; IE of the CTRL write is ignored. What the host still has to do, and
its read data, stay (the model's choice, log 12). -/
def Obligations.EitherResetRestoresResetState : Prop :=
  ∀ (s : State) (op : HostOp) (rest : List HostOp), HostIsNext s → s.script = op :: rest →
    IsReset op →
    ∃ t, step s = .next t ∧
      t.ie = false ∧ t.status = ⟨false, false, false, false⟩ ∧ t.errcode = .none ∧ cfgWord t.cfg = 0x00040001 ∧
      t.opa = 0 ∧ t.opb = 0 ∧ t.result = 0 ∧ t.running = none ∧ irq t = false ∧
      (∀ a, t.mem.lookup a = none) ∧
      (∀ r c, t.planes.dark.cell? r c = none ∧ t.planes.rsv.cell? r c = none) ∧ t.script = rest ∧ t.rdata = s.rdata

/-! ### Registers -/

/-- R23, R228: a write to STATUS, even while BUSY = 1, clears the W1C bits it names, leaves BUSY and SYNZ, and changes
nothing else. -/
def Obligations.StatusWriteClearsNamedBits : Prop :=
  ∀ (s : State) (v : Word) (rest : List HostOp), HostIsNext s → s.script = .write .word 0x008 v :: rest →
    ∃ t, step s = .next t ∧ statusWord t = statusWord s &&& ~~~(v &&& 0x16) ∧
      t = { s with script := rest, status := t.status, running := t.running } ∧
      t.running.map Running.word = s.running.map Running.word

/-- R26, R27, R29: CFG stores VERSION, LEVEL and MASK as written; reserved bits read 0; nothing else changes. -/
def Obligations.ConfigReadsBackItsFields : Prop :=
  ∀ (s : State) (v : Word) (rest : List HostOp), s.running = none → s.script = .write .word 0x014 v :: rest →
    ∃ t, step s = .next t ∧ hostRead t .word 0x014 = v &&& 0x0007033F ∧
      t.cfg.version = v.extractLsb' 0 6 ∧ t.cfg.level.code = (v.extractLsb' 8 2).toNat ∧
      t.cfg.mask = v.extractLsb' 16 3 ∧ t = { s with script := rest, cfg := t.cfg }

/-- R22, R30, R254: OPA, OPB and CTRL keep the bits that exist, the rest reads 0; RESULT ignores a write. CTRL is written
even while BUSY = 1. -/
def Obligations.OperandAndControlWrites : Prop :=
  (∀ (s : State) (v : Word) (rest : List HostOp), s.running = none →
    (s.script = .write .word 0x018 v :: rest → ∃ t, step s = .next t ∧
      hostRead t .word 0x018 = v &&& 0xFF ∧ t = { s with script := rest, opa := t.opa }) ∧
    (s.script = .write .word 0x01C v :: rest → ∃ t, step s = .next t ∧
      hostRead t .word 0x01C = v &&& 0xFF ∧ t = { s with script := rest, opb := t.opb }) ∧
    (s.script = .write .word 0x020 v :: rest → step s = .next { s with script := rest })) ∧
  ∀ (s : State) (v : Word) (rest : List HostOp), HostIsNext s → s.script = .write .word 0x004 v :: rest →
    v.getLsbD 1 = false → ∃ t, step s = .next t ∧ hostRead t .word 0x004 = v &&& 1 ∧
      t = { s with script := rest, ie := v.getLsbD 0, running := t.running } ∧
      t.running.map Running.word = s.running.map Running.word

/-- R32: the geometry registers, field by field, and 0 for an invalid version. -/
def Obligations.GeometryRegistersFollowConfig : Prop :=
  ∀ s : State, s.running = none →
    (∀ g, geometry s.cfg = some g →
      (hostRead s .word 0x024).toNat = g.size + 256 * g.blocks + 65536 * g.ecc + 16777216 * g.rem ∧
      g.size = 21 + 4 * (s.cfg.version.toNat - 1) ∧
      (hostRead s .word 0x028).toNat = g.data ∧
      (hostRead s .word 0x02C).toNat = g.data + g.blocks * g.ecc ∧
      (hostRead s .word 0x030).toNat = g.data / g.blocks + 256 * (g.data % g.blocks)) ∧
    (s.cfg.version.toNat = 0 ∨ s.cfg.version.toNat > 40 →
      hostRead s .word 0x024 = 0 ∧ hostRead s .word 0x028 = 0 ∧ hostRead s .word 0x02C = 0 ∧
      hostRead s .word 0x030 = 0)

/-- R226: IRQ is IE ∧ (DONE ∨ ERR): at the end of any command it is IE, acknowledging both events clears it, masking clears
it, OVR and SYNZ do not contribute, and it is 0 after reset. -/
def Obligations.InterruptFollowsCommandEnd : Prop :=
  (∀ (i : Instr) (s t : State), exec i s = .next t → irq t = s.ie) ∧
  (∀ s : State, irq (acknowledge 0x16 s) = false) ∧
  (∀ s : State, irq { s with ie := false } = false) ∧
  (∀ (s : State) (o z : Bool), irq { s with status := { s.status with ovr := o, synz := z } } = irq s) ∧
  irq State.reset = false

/-! ### Host accesses -/

/-- R61, R64, R65, and the read-only registers (R21, R24, R30, R32): accesses that are not performed. With the engine idle
the write has no effect; the read returns 0 at any time. -/
def Obligations.UnperformedAccessesDoNothing : Prop :=
  ∀ (s : State) (w : Width) (off : Offset),
    (off.toNat % w.bytes ≠ 0 ∨ (off.toNat < 0x34 ∧ w ≠ .word) ∨ regionOf off.toNat = .unmapped →
      hostRead s w off = 0) ∧
    (off.toNat % w.bytes ≠ 0 ∨ (off.toNat < 0x34 ∧ w ≠ .word) ∨ regionOf off.toNat = .unmapped ∨
        regionOf off.toNat = .synd ∨ regionOf off.toNat = .matrix ∨
        off.toNat ∈ [0x000, 0x00C, 0x020, 0x024, 0x028, 0x02C, 0x030] →
      ∀ (v : Word) (rest : List HostOp), s.running = none → s.script = .write w off v :: rest →
        step s = .next { s with script := rest })

/-- R62, R63: a buffer write whose value fits the access stores exactly its bytes and a read of the same width gives them back;
every other byte, and everything but the buffers, is as before. That of a value wider than the access the low bytes are the ones
written and read back is the model's choice, and no rule's (DESIGN CHOICE, log 29). -/
def Obligations.BufferWriteThenRead : Prop :=
  ∀ (s : State) (w : Width) (off : Offset) (v : Word) (rest : List HostOp), s.running = none →
    s.script = .write w off v :: .read w off :: rest → off.toNat % w.bytes = 0 →
    0x1000 ≤ off.toNat → off.toNat < 0x4000 →
    ∃ t, Sys2Proof.core.run 2 s = .next t ∧ t.rdata.toNat = v.toNat % 2 ^ (8 * w.bytes) ∧
      MemoryKeptOutside s t off.toNat w.bytes ∧
      t = { s with script := rest, rdata := t.rdata, mem := t.mem, draws := t.draws }

/-- R62, R63: a byte read of a buffer or of the matrix window returns the byte, and an aligned halfword or word read assembles
its bytes little-endian. -/
def Obligations.WordReadIsLittleEndian : Prop :=
  ∀ (s : State) (off : Offset) (b0 b1 b2 b3 : Byte), s.running = none → HoldsByte s off.toNat b0 →
    (hostRead s .byte off).toNat = b0.toNat ∧
    (off.toNat % 2 = 0 → HoldsByte s (off.toNat + 1) b1 →
      (hostRead s .half off).toNat = b0.toNat + 256 * b1.toNat) ∧
    (off.toNat % 4 = 0 → HoldsByte s (off.toNat + 1) b1 → HoldsByte s (off.toNat + 2) b2 →
      HoldsByte s (off.toNat + 3) b3 → (hostRead s .word off).toNat = b0.toNat + 256 * b1.toNat + 65536 * b2.toNat + 16777216 * b3.toNat)

/-- R66: the byte of a cell in the matrix window. -/
def Obligations.MatrixWindowShowsThePlanes : Prop :=
  ∀ (s : State) (r c : Nat), s.running = none → r ≤ 255 → c ≤ 255 →
    ((r > 176 ∨ c > 176) → hostRead s .byte (BitVec.ofNat 17 (0x10000 + 256 * r + c)) = 0) ∧
    (∀ dark rsv : Bool, r ≤ 176 → c ≤ 176 → s.planes.dark.cell? r c = some dark →
      s.planes.rsv.cell? r c = some rsv →
      (hostRead s .byte (BitVec.ofNat 17 (0x10000 + 256 * r + c))).toNat = dark.toNat + 2 * rsv.toNat)

/-- R254: while BUSY = 1 a write anywhere but CTRL and STATUS is dropped and sets OVR. -/
def Obligations.BusyWritesAreDropped : Prop :=
  ∀ (s : State) (r : Running) (w : Width) (off : Offset) (v : Word) (rest : List HostOp),
    s.running = some r → r.wait ≠ 0 → s.script = .write w off v :: rest → off ≠ 0x004 → off ≠ 0x008 →
    step s = .next { s with
      script := rest, running := some ⟨r.word, r.wait - 1⟩, status := { s.status with ovr := true } }

/-- R67, R68: a read changes no state of QRC, and the control registers read their current value even while BUSY = 1, with the
bits of STATUS where R23 puts them, the codes of R223 in ERRCODE and the fields of CFG where R26 and R29 put them. RESULT is
read with the engine idle (R30). -/
def Obligations.ReadsHaveNoSideEffect : Prop :=
  (∀ (s : State) (w : Width) (off : Offset) (rest : List HostOp), HostIsNext s → s.script = .read w off :: rest →
    ∃ t, step s = .next t ∧ t = { s with
      script := rest, rdata := t.rdata, draws := t.draws, running := t.running } ∧
      t.running.map Running.word = s.running.map Running.word) ∧
  ∀ s : State, hostRead s .word 0x000 = 0x51520001 ∧ (hostRead s .word 0x004).toNat = s.ie.toNat ∧
    hostRead s .word 0x008 = statusWord s ∧
    (hostRead s .word 0x008).toNat = s.running.isSome.toNat + 2 * s.status.done.toNat + 4 * s.status.err.toNat +
      8 * s.status.synz.toNat + 16 * s.status.ovr.toNat ∧
    (hostRead s .word 0x00C).toNat = errNumber s.errcode ∧
    hostRead s .word 0x014 = cfgWord s.cfg ∧
    (hostRead s .word 0x014).toNat =
      s.cfg.version.toNat + 256 * levelNumber s.cfg.level + 65536 * s.cfg.mask.toNat ∧
    (hostRead s .word 0x018).toNat = s.opa.toNat ∧ (hostRead s .word 0x01C).toNat = s.opb.toNat ∧
    (s.running = none → (hostRead s .word 0x020).toNat = s.result.toNat)

/-- R96: WAIT reads STATUS again and again until BUSY reads 0, then the next host operation follows; nothing else of QRC
changes. That one step is one such read is the model's choice (log 15). -/
def Obligations.WaitReadsStatusUntilIdle : Prop :=
  (∀ (s : State) (rest : List HostOp), s.running = none → s.script = .wait :: rest →
    step s = .next { s with script := rest, rdata := statusWord s }) ∧
  ∀ (s : State) (r : Running) (rest : List HostOp), s.running = some r → r.wait ≠ 0 → s.script = .wait :: rest →
    step s = .next { s with rdata := statusWord s, running := some ⟨r.word, r.wait - 1⟩ }

/-! ### Errors -/

/-- R224: the order of the checks. That a host write is served while `wait` is not 0 is the model's choice (DESIGN CHOICE,
log 3, log 27). -/
def Obligations.ChecksAreMadeInOrder : Prop :=
  (∀ (s : State) (r : Running) (w : Word) (rest : List HostOp), s.running = some r → r.wait ≠ 0 →
    s.script = .write .word 0x010 w :: rest → ∃ t, step s = .next t ∧ t.status.ovr = true ∧
      t.status.err = s.status.err ∧ t.errcode = s.errcode) ∧
  (∀ (s : State) (w : Word), Illegal w → runWord w s = .next (s.fail .illegalCmd)) ∧
  (∀ (s : State) (i : Instr), NeedsVersion i → s.cfg.version.toNat = 0 ∨ s.cfg.version.toNat > 40 →
    exec i s = .next (s.fail .badConfig)) ∧
  (∀ (s : State) (g : Geometry) (b : Nat), geometry s.cfg = some g → b ≥ g.blocks →
    exec (.rsEcc b) s = .next (s.fail .badBlock) ∧ exec (.rsSynd b) s = .next (s.fail .badBlock)) ∧
  (∀ s : State, s.opa = 0 → exec .gfLog s = .next (s.fail .logZero)) ∧
  (∀ (s : State) (n k : Nat), n = 0 ∨ n > 30 ∨ k > n → exec (.gfGen n k) s = .next (s.fail .badArg))

/-! ### GF(256) -/

/-- R117: NOP only signals DONE, whatever CFG.VERSION. -/
def Obligations.NopOnlySignalsDone : Prop :=
  ∀ s : State, exec .nop s = .next { s with status := { s.status with done := true }, running := none }

/-- R118: GF_ADD. -/
def Obligations.GfAddXorsOperands : Prop :=
  ∀ s : State, exec .gfAdd s = .next { s with
    result := s.opa ^^^ s.opb, status := { s.status with done := true }, running := none }

/-- R113, R119: GF_MUL is the product of polynomials modulo 0x11D. -/
def Obligations.GfMulIsPolynomialProduct : Prop :=
  ∀ s : State, exec .gfMul s = .next { s with
    result := polyProduct s.opa s.opb, status := { s.status with done := true }, running := none }

/-- R112, R120: GF_LOG gives the one exponent in 0..254 whose power of α is OPA; LOG_ZERO for 0. -/
def Obligations.GfLogIsDiscreteLogarithm : Prop :=
  ∀ s : State,
    (s.opa ≠ 0 → ∃ e ≤ 254, alphaPower e = s.opa ∧ (∀ e' ≤ 254, alphaPower e' = s.opa → e' = e) ∧
      exec .gfLog s = .next { s with
        result := BitVec.ofNat 8 e, status := { s.status with done := true }, running := none }) ∧
    (s.opa = 0 → exec .gfLog s = .next { s with
      errcode := .logZero, status := { s.status with err := true }, running := none })

/-- R111, R121: GF_EXP gives α^(OPA mod 255), never 0. -/
def Obligations.GfExpIsPowerOfAlpha : Prop :=
  ∀ s : State, alphaPower (s.opa.toNat % 255) ≠ 0 ∧ exec .gfExp s = .next { s with
    result := alphaPower (s.opa.toNat % 255), status := { s.status with done := true }, running := none }

/-- R115, R122: GF_GEN gives the coefficients of the monic polynomial of degree n whose roots are α^0..α^(n−1); BAD_ARG
outside its range. -/
def Obligations.GfGenIsGeneratorPolynomial : Prop :=
  (∀ n, 1 ≤ n → n ≤ 30 → ∃ p : List Byte, p.length = n + 1 ∧ p.getD 0 0 = 1 ∧
    (∀ i < n, polyValue p (alphaPower i) = 0) ∧
    ∀ (s : State) (k : Nat), k ≤ n → exec (.gfGen n k) s = .next { s with
      result := p.getD k 0, status := { s.status with done := true }, running := none }) ∧
  ∀ (s : State) (n k : Nat), n = 0 ∨ n > 30 ∨ k > n → exec (.gfGen n k) s = .next { s with
    errcode := .badArg, status := { s.status with err := true }, running := none }

/-- R123: the laws of the field. -/
def Obligations.FieldLaws : Prop :=
  (∀ a b, gfMul a b = gfMul b a) ∧ (∀ a b c, gfMul (gfMul a b) c = gfMul a (gfMul b c)) ∧
  (∀ a b c, gfMul a (gfAdd b c) = gfAdd (gfMul a b) (gfMul a c)) ∧
  (∀ a b, gfAdd a b = gfAdd b a) ∧ (∀ a b c, gfAdd (gfAdd a b) c = gfAdd a (gfAdd b c)) ∧
  (∀ a, gfAdd a 0 = a ∧ gfAdd a a = 0 ∧ gfMul a 0 = 0 ∧ gfMul 1 a = a) ∧
  (∀ a, a ≠ 0 → ∃ e, logOf a = some e ∧ expOf e = a ∧ gfMul a (expOf ((255 - e) % 255)) = 1) ∧
  (∀ e ≤ 254, logOf (expOf e) = some e)

/-! ### Reed-Solomon -/

/-- R133: a block followed by its correction codewords vanishes at every root of the generator polynomial, for every degree
GF_GEN answers and every block, shorter than the degree or not. -/
def Obligations.RemainderMakesACodeword : Prop :=
  ∀ (m : List Byte) (E : Nat), 1 ≤ E → E ≤ 30 →
    (rsRemainder m E).length = E ∧ ∀ i < E, polyValue (m ++ rsRemainder m E) (alphaPower i) = 0

/-- R136, R131, R132: RS_ECC b writes the correction codewords of block b, which is its run of DATA, at ECC[b·E .. b·E+E−1] and
nothing else. -/
def Obligations.RsEccStoresOneRemainder : Prop :=
  ∀ (s : State) (g : Geometry) (b : Nat), geometry s.cfg = some g → b < g.blocks →
    BlockIsInData s g b ∧ ∃ t, exec (.rsEcc b) s = .next t ∧
      (∀ i < g.ecc, t.mem.lookup (eccBase + (b * g.ecc + i)) = (rsRemainder (dataBlock s g b) g.ecc)[i]?) ∧
      MemoryKeptOutside s t (eccBase + b * g.ecc) g.ecc ∧ t.planes = s.planes ∧ EndsDone s t

/-- R137: RS_ECC_ALL does so for every block; with one block it is RS_ECC 0. -/
def Obligations.RsEccAllStoresEveryRemainder : Prop :=
  ∀ (s : State) (g : Geometry), geometry s.cfg = some g →
    (∀ b < g.blocks, BlockIsInData s g b) ∧
    (∃ t, exec .rsEccAll s = .next t ∧
      (∀ b < g.blocks, ∀ i < g.ecc,
        t.mem.lookup (eccBase + (b * g.ecc + i)) = (rsRemainder (dataBlock s g b) g.ecc)[i]?) ∧
      MemoryKeptOutside s t eccBase (g.blocks * g.ecc) ∧ t.planes = s.planes ∧ EndsDone s t) ∧
    (g.blocks = 1 → exec .rsEccAll s = exec (.rsEcc 0) s)

/-- R138, R139: where each codeword goes in SEQ. -/
def Obligations.InterleavePositions : Prop :=
  ∀ (s : State) (g : Geometry), geometry s.cfg = some g →
    ∃ t, exec .rsInterleave s = .next t ∧
      (∀ b < g.blocks, ∀ i < g.short, t.mem.lookup (seqBase + (i * g.blocks + b)) =
        some (readByte s 0 (dataBase + (g.start b + i)))) ∧
      (∀ b < g.blocks, g.blocks - g.nlong ≤ b →
        t.mem.lookup (seqBase + (g.short * g.blocks + (b - (g.blocks - g.nlong)))) =
          some (readByte s 0 (dataBase + (g.start b + g.short)))) ∧
      (∀ b < g.blocks, ∀ i < g.ecc, t.mem.lookup (seqBase + (g.data + (i * g.blocks + b))) =
        some (readByte s 0 (eccBase + (b * g.ecc + i)))) ∧
      MemoryKeptOutside s t seqBase g.total ∧ t.planes = s.planes ∧ EndsDone s t

/-- R140: RS_ENCODE is RS_ECC_ALL followed by RS_INTERLEAVE. -/
def Obligations.RsEncodeIsEccAllThenInterleave : Prop :=
  ∀ (s : State) (g : Geometry), geometry s.cfg = some g →
    ∃ t u, exec .rsEccAll s = .next t ∧ exec .rsInterleave t = .next u ∧ exec .rsEncode s = .next u

/-- R131: the blocks tile DATA[0..D−1] in order, without gap or overlap; the first B − NLONG have SHORT = ⌊D/B⌋ bytes, the
others one more. -/
def Obligations.BlocksTileTheData : Prop :=
  ∀ (v : Nat) (l : Level) (g : Geometry), geometryOf v l = some g →
    g.start 0 = 0 ∧ (∀ b < g.blocks, g.start (b + 1) = g.start b + g.len b) ∧ g.start g.blocks = g.data ∧
    ∀ b < g.blocks, g.len b = g.data / g.blocks + if b < g.blocks - g.data % g.blocks then 0 else 1

/-- R141, R142: RS_SYND b writes the value of the received block, its run of DATA and its bytes of ECC, at each root, zeros
above, and SYNZ. -/
def Obligations.RsSyndEvaluatesAtTheRoots : Prop :=
  ∀ (s : State) (g : Geometry) (b : Nat), geometry s.cfg = some g → b < g.blocks →
    BlockIsInData s g b ∧ BlockIsInEcc s g b ∧ ∃ t, exec (.rsSynd b) s = .next t ∧
      (∀ i < g.ecc, t.mem.lookup (syndBase + i) =
        some (polyValue (dataBlock s g b ++ eccBlock s g b) (alphaPower i))) ∧
      (∀ i, g.ecc ≤ i → i < 32 → t.mem.lookup (syndBase + i) = some 0) ∧
      (t.status.synz = true ↔ ∀ i < g.ecc, t.mem.lookup (syndBase + i) = some 0) ∧
      MemoryKeptOutside s t syndBase 32 ∧ t.planes = s.planes ∧ KeepsRegisters s t ∧ t.result = s.result ∧
      t.running = none ∧ t.status.done = true

/-- R143: after RS_ECC b, RS_ECC_ALL or RS_ENCODE, as long as the block's DATA and ECC are not written, RS_SYND b ends with
SYNZ = 1. The block's DATA has been written (R253 item 4): unwritten bytes are free draws that may differ (R41). -/
def Obligations.EncodedBlockHasZeroSyndromes : Prop :=
  ∀ (i : Instr) (s t u : State) (g : Geometry) (b : Nat), geometry s.cfg = some g → b < g.blocks →
    DataWritten s g b → (i = .rsEcc b ∨ i = .rsEccAll ∨ i = .rsEncode) → exec i s = .next t → u.cfg = s.cfg →
    (∀ j < g.len b, u.mem.lookup (dataBase + (g.start b + j)) = t.mem.lookup (dataBase + (g.start b + j))) →
    (∀ j < g.ecc, u.mem.lookup (eccBase + (b * g.ecc + j)) = t.mem.lookup (eccBase + (b * g.ecc + j))) →
    BlockIsInData u g b ∧ BlockIsInEcc u g b ∧ ∃ w, exec (.rsSynd b) u = .next w ∧ w.status.synz = true

/-! ### The matrix -/

/-- R168: MX_CLEAR makes every cell Light and unreserved, so every byte of the matrix window reads 0; it needs no valid
version. -/
def Obligations.ClearMakesEveryCellLight : Prop :=
  ∀ s : State, ∃ t, exec .mxClear s = .next t ∧
    (∀ r ≤ 176, ∀ c ≤ 176, t.planes.dark.cell? r c = some false ∧ t.planes.rsv.cell? r c = some false) ∧
    (∀ off : Offset, 0x10000 ≤ off.toNat → hostRead t .byte off = 0) ∧ t.mem = s.mem ∧ EndsDone s t

/-- R161 to R167, R169: what MX_TEMPLATE writes, cell by cell, the order of its groups not showing; every other cell keeps
its values. -/
def Obligations.TemplateCellByCell : Prop :=
  ∀ (s : State) (g : Geometry), geometry s.cfg = some g →
    ∃ t, exec .mxTemplate s = .next t ∧
      (∀ r c, match templateCell g.version g.size r c with
        | some x => t.planes.dark.cell? r c = some x ∧ t.planes.rsv.cell? r c = some true
        | none => t.planes.dark.cell? r c = s.planes.dark.cell? r c ∧
            t.planes.rsv.cell? r c = s.planes.rsv.cell? r c) ∧ t.mem = s.mem ∧ EndsDone s t

/-- R163: the pairs skipped are exactly (6, 6), (6, S−7) and (S−7, 6). -/
def Obligations.AlignmentSkipsThreePairs : Prop :=
  ∀ v, 2 ≤ v → v ≤ 40 → ∀ ar ac,
    (ar, ac) ∈ alignmentCentres v (21 + 4 * (v - 1)) ↔
      ar ∈ alignOf v ∧ ac ∈ alignOf v ∧ (ar, ac) ≠ (6, 6) ∧ (ar, ac) ≠ (6, 21 + 4 * (v - 1) - 7) ∧
        (ar, ac) ≠ (21 + 4 * (v - 1) - 7, 6)

/-- R171, R172: MX_VERINFO writes the two blocks for v ≥ 7 and nothing below. -/
def Obligations.VerinfoCellByCell : Prop :=
  ∀ (s : State) (g : Geometry), geometry s.cfg = some g →
    ∃ t, exec .mxVerinfo s = .next t ∧
      (∀ r c, match verinfoCell g.version g.size r c with
        | some x => t.planes.dark.cell? r c = some x ∧ t.planes.rsv.cell? r c = some true
        | none => t.planes.dark.cell? r c = s.planes.dark.cell? r c ∧
            t.planes.rsv.cell? r c = s.planes.rsv.cell? r c) ∧
      (g.version < 7 → t.planes = s.planes) ∧ t.mem = s.mem ∧ EndsDone s t

/-- R173: the scan visits every cell of the symbol but column 6 once, and column 6 never; the j-th cell it visits is
`scanCell`. -/
def Obligations.ScanVisitsEachCellOnce : Prop :=
  ∀ v, 1 ≤ v → v ≤ 40 →
    (scanOrder (21 + 4 * (v - 1))).Nodup ∧
    (∀ r c, (r, c) ∈ scanOrder (21 + 4 * (v - 1)) ↔
      r < 21 + 4 * (v - 1) ∧ c < 21 + 4 * (v - 1) ∧ c ≠ 6) ∧
    (scanOrder (21 + 4 * (v - 1))).length = (21 + 4 * (v - 1)) * (20 + 4 * (v - 1)) ∧
    ∀ j < (21 + 4 * (v - 1)) * (20 + 4 * (v - 1)),
      (scanOrder (21 + 4 * (v - 1)))[j]? = some (scanCell (21 + 4 * (v - 1)) j)

/-- R174 to R177: the k-th cell in scan order that is not reserved gets bit(k) ⊕ inv_m for k < 8·T, bit(k) being bit
7 − (k mod 8) of SEQ[⌊k/8⌋] where that byte is written; the cells after the last bit are left or get inv_m, as REMAINDER_FILL
says. -/
def Obligations.PlacementPutsBitsInScanOrder : Prop :=
  ∀ (s : State) (g : Geometry), geometry s.cfg = some g →
    ∃ t, exec .mxPlace s = .next t ∧
      (∀ (k r c : Nat), (openCells s g)[k]? = some (r, c) →
        t.planes.dark.cell? r c =
          if k < 8 * g.total then some (streamBit s k ^^ inverted s.cfg.mask.toNat r c)
          else match Config.remainderFill with
            | .leave => s.planes.dark.cell? r c
            | .zeroMasked => some (inverted s.cfg.mask.toNat r c)) ∧
      ∀ (k : Nat) (x : Byte), s.mem.lookup (seqBase + k / 8) = some x → streamBit s k = x.getLsbD (7 - k % 8)

/-- R177: MX_PLACE writes no RSV bit, no reserved cell, nothing in column 6 or outside the symbol, and no buffer. -/
def Obligations.PlacementLeavesReservedCellsAlone : Prop :=
  ∀ (s : State) (g : Geometry), geometry s.cfg = some g →
    ∃ t, exec .mxPlace s = .next t ∧ t.planes.rsv = s.planes.rsv ∧
      (∀ r c, s.planes.rsv.cell? r c = some true ∨ c = 6 ∨ g.size ≤ r ∨ g.size ≤ c →
        t.planes.dark.cell? r c = s.planes.dark.cell? r c) ∧ t.mem = s.mem ∧ EndsDone s t

/-- R179, R180: MX_FORMAT writes the code of (LEVEL, MASK) into copy 1, into copy 2 if FORMAT_COPY2 says so, sets the dark
module, and changes no other cell; a second MX_FORMAT changes nothing. -/
def Obligations.FormatWritesTheCode : Prop :=
  ∀ (s : State) (g : Geometry), geometry s.cfg = some g →
    ∃ t, exec .mxFormat s = .next t ∧
      (∀ i r c, strip1[i]? = some (r, c) →
        t.planes.dark.cell? r c = some ((formatOf s.cfg.level s.cfg.mask.toNat).testBit i) ∧
        t.planes.rsv.cell? r c = some true) ∧
      (Config.formatCopy2 = .write → ∀ i r c, (strip2 g.size)[i]? = some (r, c) →
        t.planes.dark.cell? r c = some ((formatOf s.cfg.level s.cfg.mask.toNat).testBit i) ∧
        t.planes.rsv.cell? r c = some true) ∧
      t.planes.dark.cell? (g.size - 8) 8 = some true ∧ t.planes.rsv.cell? (g.size - 8) 8 = some true ∧
      (∀ r c, (r, c) ∉ strip1 → (r, c) ≠ (g.size - 8, 8) →
        (Config.formatCopy2 = .write → (r, c) ∉ strip2 g.size) →
        t.planes.dark.cell? r c = s.planes.dark.cell? r c ∧
        t.planes.rsv.cell? r c = s.planes.rsv.cell? r c) ∧
      t.mem = s.mem ∧ EndsDone s t ∧
      ∃ u, exec .mxFormat t = .next u ∧ u.planes = t.planes

/-- R181: with a valid version MX_BUILD is the five commands one after another. -/
def Obligations.BuildIsFiveCommands : Prop :=
  ∀ (s : State) (g : Geometry), geometry s.cfg = some g →
    ∃ t1 t2 t3 t4 t5, exec .mxClear s = .next t1 ∧ exec .mxTemplate t1 = .next t2 ∧
      exec .mxVerinfo t2 = .next t3 ∧ exec .mxPlace t3 = .next t4 ∧ exec .mxFormat t4 = .next t5 ∧
      exec .mxBuild s = .next t5

/-- R182: with a valid version QR_ENCODE is RS_ENCODE followed by MX_BUILD, and leaves DATA, RESULT, SYND and SYNZ. -/
def Obligations.QrEncodeIsEncodeThenBuild : Prop :=
  ∀ (s : State) (g : Geometry), geometry s.cfg = some g →
    ∃ t u, exec .rsEncode s = .next t ∧ exec .mxBuild t = .next u ∧ exec .qrEncode s = .next u ∧
      (∀ a, a < eccBase ∨ syndBase ≤ a → u.mem.lookup a = s.mem.lookup a) ∧ EndsDone s u

/-- R183 item 5: the planes MX_BUILD leaves depend only on CFG and SEQ[0..T−1] (and the two parameters). -/
def Obligations.BuildDependsOnlyOnConfigAndSeq : Prop :=
  ∀ (s s' : State) (g : Geometry), geometry s.cfg = some g → s'.cfg = s.cfg → SeqWritten s g →
    (∀ k < g.total, s'.mem.lookup (seqBase + k) = s.mem.lookup (seqBase + k)) →
    ∃ t t', exec .mxBuild s = .next t ∧ exec .mxBuild s' = .next t' ∧ t'.planes = t.planes

/-- R183 items 1, 2 and 4: after MX_BUILD the reserved cells are exactly the structural ones and number S² − RAW, 8·T + REM
cells are open to placement, the REM last of them Light where REMAINDER_FILL is LEAVE; the format strips hold the code, the
dark module is dark, and DARK is 0 outside the symbol. -/
def Obligations.BuildReservesExactlyTheStructure : Prop :=
  ∀ (s : State) (g : Geometry), geometry s.cfg = some g →
    ∃ t, exec .mxBuild s = .next t ∧
      (∀ r ≤ 176, ∀ c ≤ 176, t.planes.rsv.cell? r c =
        some ((templateCell g.version g.size r c).isSome || (verinfoCell g.version g.size r c).isSome)) ∧
      (∃ row, structRow g.version = some row ∧ row.raw = 8 * g.total + g.rem ∧
        reservedCount t g.size = g.size * g.size - row.raw) ∧
      (openCells t g).length = 8 * g.total + g.rem ∧
      (Config.remainderFill = .leave → ∀ k r c, 8 * g.total ≤ k → (openCells t g)[k]? = some (r, c) →
        t.planes.dark.cell? r c = some false) ∧
      (∀ i r c, strip1[i]? = some (r, c) →
        t.planes.dark.cell? r c = some ((formatOf s.cfg.level s.cfg.mask.toNat).testBit i)) ∧
      (Config.formatCopy2 = .write → ∀ i r c, (strip2 g.size)[i]? = some (r, c) →
        t.planes.dark.cell? r c = some ((formatOf s.cfg.level s.cfg.mask.toNat).testBit i)) ∧
      t.planes.dark.cell? (g.size - 8) 8 = some true ∧
      (∀ r ≤ 176, ∀ c ≤ 176, g.size ≤ r ∨ g.size ≤ c → t.planes.dark.cell? r c = some false)

/-- R162, R170, R178, R130: the tables agree with the formulas the spec gives for them. -/
def Obligations.TablesMatchTheirFormulas : Prop :=
  (∀ v, 2 ≤ v → v ≤ 40 → alignOf v = alignClosedForm v) ∧
  (∀ v, 7 ≤ v → v ≤ 40 → verinfoOf v = (v <<< 12) ^^^ binaryRemainder 0x1F25 12 6 (v <<< 12)) ∧
  (∀ (l : Level) (m : Nat), m < 8 → formatOf l m =
    (((levelIndicator l * 8 + m) <<< 10) ^^^ binaryRemainder 0x537 10 5 ((levelIndicator l * 8 + m) <<< 10)) ^^^
      0x5412) ∧
  ∀ v, 1 ≤ v → v ≤ 40 → ∀ l : Level, ∃ row, structRow v = some row ∧ row.total = row.raw / 8 ∧
    row.rem = row.raw - 8 * row.total ∧
    (row.atLevel l).data = row.total - (row.atLevel l).blocks * (row.atLevel l).ecc

/-! ### The whole machine -/

/-- R257, with R30, R33, R34, R35, R36: each piece of state is written only by the commands listed as its writers; DATA,
CFG, OPA, OPB, CTRL.IE and STATUS.OVR by none. -/
def Obligations.CommandsWriteOnlyTheirOutputs : Prop :=
  ∀ (i : Instr) (s t : State), exec i s = .next t →
    t.ie = s.ie ∧ t.cfg = s.cfg ∧ t.opa = s.opa ∧ t.opb = s.opb ∧ t.status.ovr = s.status.ovr ∧
    t.script = s.script ∧ t.rdata = s.rdata ∧
    (WritesResult i ∨ t.result = s.result) ∧
    (∀ a < eccBase, t.mem.lookup a = s.mem.lookup a) ∧
    (WritesEcc i ∨ ∀ a, eccBase ≤ a → a < seqBase → t.mem.lookup a = s.mem.lookup a) ∧
    (WritesSeq i ∨ ∀ a, seqBase ≤ a → a < syndBase → t.mem.lookup a = s.mem.lookup a) ∧
    (WritesSynd i ∨ t.status.synz = s.status.synz ∧ ∀ a, syndBase ≤ a → t.mem.lookup a = s.mem.lookup a) ∧
    (WritesRsv i ∨ t.planes.rsv = s.planes.rsv) ∧
    (WritesDark i ∨ t.planes.dark = s.planes.dark)

/-! ### The host's stages -/

/-- R202: the selected version is the first that fits; none is selected when none fits. -/
def Obligations.SelectedVersionIsTheFirstThatFits : Prop :=
  (∀ (n : Nat) (l : Level) (v : Nat), selectVersion n l = some v ↔
    (1 ≤ v ∧ v ≤ 40 ∧ 8 * dataCodewords v l ≥ headerBits v + 8 * n ∧
      ∀ u, 1 ≤ u → u < v → 8 * dataCodewords u l < headerBits u + 8 * n)) ∧
  ∀ (n : Nat) (l : Level), selectVersion n l = none ↔
    ∀ u, 1 ≤ u → u ≤ 40 → 8 * dataCodewords u l < headerBits u + 8 * n

/-- R203: whenever the data fits, the bit stream is D codewords: the mode indicator, the length and the payload, four zero
bits up to the byte boundary, then the pad codewords 0xEC, 0x11, 0xEC, …; when it does not fit, CapacityExceeded. -/
def Obligations.BitStreamFillsTheCapacity : Prop :=
  ∀ (data : List Byte) (v : Nat) (l : Level), 1 ≤ v → v ≤ 40 →
    (8 * dataCodewords v l ≥ headerBits v + 8 * data.length → ∃ cw pads : List Byte,
      bitStream data v l = .ok (cw ++ pads) ∧ (cw ++ pads).length = dataCodewords v l ∧
      (cw.flatMap fun x => msbFirst 8 x.toNat) = streamHead data v ++ [false, false, false, false] ∧
      ∀ i < pads.length, pads[i]? = some (if i % 2 = 0 then 0xEC#8 else 0x11#8)) ∧
    (8 * dataCodewords v l < headerBits v + 8 * data.length → bitStream data v l = .error .capacityExceeded)

/-- R208: the capacity strictly increases with the version, so the selected version does not decrease with the payload. -/
def Obligations.SelectedVersionIsMonotone : Prop :=
  (∀ (l : Level) (v : Nat), 1 ≤ v → v < 40 → dataCodewords v l < dataCodewords (v + 1) l) ∧
  ∀ (l : Level) (n m v w : Nat), n ≤ m → selectVersion n l = some v → selectVersion m l = some w → v ≤ w

/-- R206, R207: what the host's checks answer, with the version and the codewords; a request that passes them, made of an idle
QRC, loads CFG (mask 4) and the codewords, runs QR_ENCODE, and answers the S × S dark bits it leaves, or, where STATUS.ERR is
set, a report; a request that fails them answers its error and leaves the state. The pseudocode does not acknowledge first, so an ERR already set is what it reports;
how a code is reported is the model's choice (DESIGN CHOICE, log 31). -/
def Obligations.EncodeAnswersWhatQrEncodeLeaves : Prop :=
  (∀ r : EncodeRequest, PrepareAnswers r) ∧
  (∀ (r : EncodeRequest) (s : State) (v : Nat) (cw : List Byte), s.running = none → r.prepare = .ok (v, cw) →
    ∃ (b u t : State) (fuel : Nat) (x : Except EncodeFailure (List (List Bool))),
      (∃ l : Level, r.level = levelNumber l ∧ b.cfg = ⟨BitVec.ofNat 6 v, l, 4⟩) ∧
      (∀ k < cw.length, b.mem.lookup (dataBase + k) = cw[k]?) ∧ MemoryKeptOutside s b dataBase cw.length ∧
      b.status = s.status ∧ b.errcode = s.errcode ∧
      exec .qrEncode b = .next u ∧ r.encode fuel s = some (t, x) ∧
      t.mem = u.mem ∧ t.planes = u.planes ∧ t.cfg = u.cfg ∧ t.status = u.status ∧ t.errcode = s.errcode ∧
      t.running = none ∧
      (s.status.err = false → ∃ m, x = .ok m ∧ m.length = 21 + 4 * (v - 1) ∧
        (∀ row ∈ m, row.length = 21 + 4 * (v - 1)) ∧
        ∀ i j, i < 21 + 4 * (v - 1) → j < 21 + 4 * (v - 1) →
          (m[i]?.bind fun row => row[j]?) = u.planes.dark.cell? i j) ∧
      (s.status.err = true → x = .error (reportOf (hostRead s .word 0x00C)))) ∧
  ∀ (r : EncodeRequest) (s : State) (fuel : Nat) (e : EncodeError), r.prepare = .error e →
    r.encode fuel s = some (s, .error (.host e))
end

