-- ==== Sys2Proof/Laws/State.lean ====
section
/-! SUPPORT. One lemma per field per update of the state, true by rfl, so that no proof unfolds a record update. -/

namespace Sys2Proof.Laws

open Sys2Proof.Machine

/-! ### setResult -/

@[simp] theorem setResult_ie (v : Byte) (s : State) : (State.setResult v s).ie = s.ie := rfl
@[simp] theorem setResult_status (v : Byte) (s : State) : (State.setResult v s).status = s.status := rfl
@[simp] theorem setResult_errcode (v : Byte) (s : State) : (State.setResult v s).errcode = s.errcode := rfl
@[simp] theorem setResult_cfg (v : Byte) (s : State) : (State.setResult v s).cfg = s.cfg := rfl
@[simp] theorem setResult_opa (v : Byte) (s : State) : (State.setResult v s).opa = s.opa := rfl
@[simp] theorem setResult_opb (v : Byte) (s : State) : (State.setResult v s).opb = s.opb := rfl
@[simp] theorem setResult_result (v : Byte) (s : State) : (State.setResult v s).result = v := rfl
@[simp] theorem setResult_mem (v : Byte) (s : State) : (State.setResult v s).mem = s.mem := rfl
@[simp] theorem setResult_planes (v : Byte) (s : State) : (State.setResult v s).planes = s.planes := rfl
@[simp] theorem setResult_running (v : Byte) (s : State) : (State.setResult v s).running = s.running := rfl
@[simp] theorem setResult_script (v : Byte) (s : State) : (State.setResult v s).script = s.script := rfl
@[simp] theorem setResult_rdata (v : Byte) (s : State) : (State.setResult v s).rdata = s.rdata := rfl
@[simp] theorem setResult_draws (v : Byte) (s : State) : (State.setResult v s).draws = s.draws := rfl

/-! ### setMem -/

@[simp] theorem setMem_ie (m : Memory) (s : State) : (State.setMem m s).ie = s.ie := rfl
@[simp] theorem setMem_status (m : Memory) (s : State) : (State.setMem m s).status = s.status := rfl
@[simp] theorem setMem_errcode (m : Memory) (s : State) : (State.setMem m s).errcode = s.errcode := rfl
@[simp] theorem setMem_cfg (m : Memory) (s : State) : (State.setMem m s).cfg = s.cfg := rfl
@[simp] theorem setMem_opa (m : Memory) (s : State) : (State.setMem m s).opa = s.opa := rfl
@[simp] theorem setMem_opb (m : Memory) (s : State) : (State.setMem m s).opb = s.opb := rfl
@[simp] theorem setMem_result (m : Memory) (s : State) : (State.setMem m s).result = s.result := rfl
@[simp] theorem setMem_mem (m : Memory) (s : State) : (State.setMem m s).mem = m := rfl
@[simp] theorem setMem_planes (m : Memory) (s : State) : (State.setMem m s).planes = s.planes := rfl
@[simp] theorem setMem_running (m : Memory) (s : State) : (State.setMem m s).running = s.running := rfl
@[simp] theorem setMem_script (m : Memory) (s : State) : (State.setMem m s).script = s.script := rfl
@[simp] theorem setMem_rdata (m : Memory) (s : State) : (State.setMem m s).rdata = s.rdata := rfl
@[simp] theorem setMem_draws (m : Memory) (s : State) : (State.setMem m s).draws = s.draws + 1 := rfl

/-! ### setPlanes -/

@[simp] theorem setPlanes_ie (p : Planes) (s : State) : (State.setPlanes p s).ie = s.ie := rfl
@[simp] theorem setPlanes_status (p : Planes) (s : State) : (State.setPlanes p s).status = s.status := rfl
@[simp] theorem setPlanes_errcode (p : Planes) (s : State) : (State.setPlanes p s).errcode = s.errcode := rfl
@[simp] theorem setPlanes_cfg (p : Planes) (s : State) : (State.setPlanes p s).cfg = s.cfg := rfl
@[simp] theorem setPlanes_opa (p : Planes) (s : State) : (State.setPlanes p s).opa = s.opa := rfl
@[simp] theorem setPlanes_opb (p : Planes) (s : State) : (State.setPlanes p s).opb = s.opb := rfl
@[simp] theorem setPlanes_result (p : Planes) (s : State) : (State.setPlanes p s).result = s.result := rfl
@[simp] theorem setPlanes_mem (p : Planes) (s : State) : (State.setPlanes p s).mem = s.mem := rfl
@[simp] theorem setPlanes_planes (p : Planes) (s : State) : (State.setPlanes p s).planes = p := rfl
@[simp] theorem setPlanes_running (p : Planes) (s : State) : (State.setPlanes p s).running = s.running := rfl
@[simp] theorem setPlanes_script (p : Planes) (s : State) : (State.setPlanes p s).script = s.script := rfl
@[simp] theorem setPlanes_rdata (p : Planes) (s : State) : (State.setPlanes p s).rdata = s.rdata := rfl
@[simp] theorem setPlanes_draws (p : Planes) (s : State) : (State.setPlanes p s).draws = s.draws := rfl

/-! ### nextDraw -/

@[simp] theorem nextDraw_ie (s : State) : (State.nextDraw s).ie = s.ie := rfl
@[simp] theorem nextDraw_status (s : State) : (State.nextDraw s).status = s.status := rfl
@[simp] theorem nextDraw_errcode (s : State) : (State.nextDraw s).errcode = s.errcode := rfl
@[simp] theorem nextDraw_cfg (s : State) : (State.nextDraw s).cfg = s.cfg := rfl
@[simp] theorem nextDraw_opa (s : State) : (State.nextDraw s).opa = s.opa := rfl
@[simp] theorem nextDraw_opb (s : State) : (State.nextDraw s).opb = s.opb := rfl
@[simp] theorem nextDraw_result (s : State) : (State.nextDraw s).result = s.result := rfl
@[simp] theorem nextDraw_mem (s : State) : (State.nextDraw s).mem = s.mem := rfl
@[simp] theorem nextDraw_planes (s : State) : (State.nextDraw s).planes = s.planes := rfl
@[simp] theorem nextDraw_running (s : State) : (State.nextDraw s).running = s.running := rfl
@[simp] theorem nextDraw_script (s : State) : (State.nextDraw s).script = s.script := rfl
@[simp] theorem nextDraw_rdata (s : State) : (State.nextDraw s).rdata = s.rdata := rfl
@[simp] theorem nextDraw_draws (s : State) : (State.nextDraw s).draws = s.draws + 1 := rfl

/-! ### setSynz -/

@[simp] theorem setSynz_ie (x : Bool) (s : State) : (State.setSynz x s).ie = s.ie := rfl
@[simp] theorem setSynz_status (x : Bool) (s : State) : (State.setSynz x s).status = { s.status with synz := x } := rfl
@[simp] theorem setSynz_errcode (x : Bool) (s : State) : (State.setSynz x s).errcode = s.errcode := rfl
@[simp] theorem setSynz_cfg (x : Bool) (s : State) : (State.setSynz x s).cfg = s.cfg := rfl
@[simp] theorem setSynz_opa (x : Bool) (s : State) : (State.setSynz x s).opa = s.opa := rfl
@[simp] theorem setSynz_opb (x : Bool) (s : State) : (State.setSynz x s).opb = s.opb := rfl
@[simp] theorem setSynz_result (x : Bool) (s : State) : (State.setSynz x s).result = s.result := rfl
@[simp] theorem setSynz_mem (x : Bool) (s : State) : (State.setSynz x s).mem = s.mem := rfl
@[simp] theorem setSynz_planes (x : Bool) (s : State) : (State.setSynz x s).planes = s.planes := rfl
@[simp] theorem setSynz_running (x : Bool) (s : State) : (State.setSynz x s).running = s.running := rfl
@[simp] theorem setSynz_script (x : Bool) (s : State) : (State.setSynz x s).script = s.script := rfl
@[simp] theorem setSynz_rdata (x : Bool) (s : State) : (State.setSynz x s).rdata = s.rdata := rfl
@[simp] theorem setSynz_draws (x : Bool) (s : State) : (State.setSynz x s).draws = s.draws := rfl

/-! ### setOvr -/

@[simp] theorem setOvr_ie (s : State) : (State.setOvr s).ie = s.ie := rfl
@[simp] theorem setOvr_status (s : State) : (State.setOvr s).status = { s.status with ovr := true } := rfl
@[simp] theorem setOvr_errcode (s : State) : (State.setOvr s).errcode = s.errcode := rfl
@[simp] theorem setOvr_cfg (s : State) : (State.setOvr s).cfg = s.cfg := rfl
@[simp] theorem setOvr_opa (s : State) : (State.setOvr s).opa = s.opa := rfl
@[simp] theorem setOvr_opb (s : State) : (State.setOvr s).opb = s.opb := rfl
@[simp] theorem setOvr_result (s : State) : (State.setOvr s).result = s.result := rfl
@[simp] theorem setOvr_mem (s : State) : (State.setOvr s).mem = s.mem := rfl
@[simp] theorem setOvr_planes (s : State) : (State.setOvr s).planes = s.planes := rfl
@[simp] theorem setOvr_running (s : State) : (State.setOvr s).running = s.running := rfl
@[simp] theorem setOvr_script (s : State) : (State.setOvr s).script = s.script := rfl
@[simp] theorem setOvr_rdata (s : State) : (State.setOvr s).rdata = s.rdata := rfl
@[simp] theorem setOvr_draws (s : State) : (State.setOvr s).draws = s.draws := rfl

/-! ### finish -/

@[simp] theorem finish_ie (s : State) : (State.finish s).ie = s.ie := rfl
@[simp] theorem finish_status (s : State) : (State.finish s).status = { s.status with done := true } := rfl
@[simp] theorem finish_errcode (s : State) : (State.finish s).errcode = s.errcode := rfl
@[simp] theorem finish_cfg (s : State) : (State.finish s).cfg = s.cfg := rfl
@[simp] theorem finish_opa (s : State) : (State.finish s).opa = s.opa := rfl
@[simp] theorem finish_opb (s : State) : (State.finish s).opb = s.opb := rfl
@[simp] theorem finish_result (s : State) : (State.finish s).result = s.result := rfl
@[simp] theorem finish_mem (s : State) : (State.finish s).mem = s.mem := rfl
@[simp] theorem finish_planes (s : State) : (State.finish s).planes = s.planes := rfl
@[simp] theorem finish_running (s : State) : (State.finish s).running = none := rfl
@[simp] theorem finish_script (s : State) : (State.finish s).script = s.script := rfl
@[simp] theorem finish_rdata (s : State) : (State.finish s).rdata = s.rdata := rfl
@[simp] theorem finish_draws (s : State) : (State.finish s).draws = s.draws := rfl

/-! ### fail -/

@[simp] theorem fail_ie (code : ErrCode) (s : State) : (State.fail code s).ie = s.ie := rfl
@[simp] theorem fail_status (code : ErrCode) (s : State) : (State.fail code s).status = { s.status with err := true } := rfl
@[simp] theorem fail_errcode (code : ErrCode) (s : State) : (State.fail code s).errcode = code := rfl
@[simp] theorem fail_cfg (code : ErrCode) (s : State) : (State.fail code s).cfg = s.cfg := rfl
@[simp] theorem fail_opa (code : ErrCode) (s : State) : (State.fail code s).opa = s.opa := rfl
@[simp] theorem fail_opb (code : ErrCode) (s : State) : (State.fail code s).opb = s.opb := rfl
@[simp] theorem fail_result (code : ErrCode) (s : State) : (State.fail code s).result = s.result := rfl
@[simp] theorem fail_mem (code : ErrCode) (s : State) : (State.fail code s).mem = s.mem := rfl
@[simp] theorem fail_planes (code : ErrCode) (s : State) : (State.fail code s).planes = s.planes := rfl
@[simp] theorem fail_running (code : ErrCode) (s : State) : (State.fail code s).running = none := rfl
@[simp] theorem fail_script (code : ErrCode) (s : State) : (State.fail code s).script = s.script := rfl
@[simp] theorem fail_rdata (code : ErrCode) (s : State) : (State.fail code s).rdata = s.rdata := rfl
@[simp] theorem fail_draws (code : ErrCode) (s : State) : (State.fail code s).draws = s.draws := rfl

/-! ### accept -/

@[simp] theorem accept_ie (w : Word) (s : State) : (State.accept w s).ie = s.ie := rfl
@[simp] theorem accept_status (w : Word) (s : State) : (State.accept w s).status = s.status := rfl
@[simp] theorem accept_errcode (w : Word) (s : State) : (State.accept w s).errcode = s.errcode := rfl
@[simp] theorem accept_cfg (w : Word) (s : State) : (State.accept w s).cfg = s.cfg := rfl
@[simp] theorem accept_opa (w : Word) (s : State) : (State.accept w s).opa = s.opa := rfl
@[simp] theorem accept_opb (w : Word) (s : State) : (State.accept w s).opb = s.opb := rfl
@[simp] theorem accept_result (w : Word) (s : State) : (State.accept w s).result = s.result := rfl
@[simp] theorem accept_mem (w : Word) (s : State) : (State.accept w s).mem = s.mem := rfl
@[simp] theorem accept_planes (w : Word) (s : State) : (State.accept w s).planes = s.planes := rfl
@[simp] theorem accept_running (w : Word) (s : State) : (State.accept w s).running = some ⟨w, Config.latency s.draws w⟩ := rfl
@[simp] theorem accept_script (w : Word) (s : State) : (State.accept w s).script = s.script := rfl
@[simp] theorem accept_rdata (w : Word) (s : State) : (State.accept w s).rdata = s.rdata := rfl
@[simp] theorem accept_draws (w : Word) (s : State) : (State.accept w s).draws = s.draws + 1 := rfl

/-! ### withFetchWord -/

@[simp] theorem withFetchWord_ie (s : State) (nbits w : Nat) : (State.withFetchWord s nbits w).ie = s.ie := rfl
@[simp] theorem withFetchWord_status (s : State) (nbits w : Nat) : (State.withFetchWord s nbits w).status = s.status := rfl
@[simp] theorem withFetchWord_errcode (s : State) (nbits w : Nat) : (State.withFetchWord s nbits w).errcode = s.errcode := rfl
@[simp] theorem withFetchWord_cfg (s : State) (nbits w : Nat) : (State.withFetchWord s nbits w).cfg = s.cfg := rfl
@[simp] theorem withFetchWord_opa (s : State) (nbits w : Nat) : (State.withFetchWord s nbits w).opa = s.opa := rfl
@[simp] theorem withFetchWord_opb (s : State) (nbits w : Nat) : (State.withFetchWord s nbits w).opb = s.opb := rfl
@[simp] theorem withFetchWord_result (s : State) (nbits w : Nat) : (State.withFetchWord s nbits w).result = s.result := rfl
@[simp] theorem withFetchWord_mem (s : State) (nbits w : Nat) : (State.withFetchWord s nbits w).mem = s.mem := rfl
@[simp] theorem withFetchWord_planes (s : State) (nbits w : Nat) : (State.withFetchWord s nbits w).planes = s.planes := rfl
@[simp] theorem withFetchWord_running (s : State) (nbits w : Nat) : (State.withFetchWord s nbits w).running = some ⟨commandWord nbits w, 0⟩ := rfl
@[simp] theorem withFetchWord_script (s : State) (nbits w : Nat) : (State.withFetchWord s nbits w).script = s.script := rfl
@[simp] theorem withFetchWord_rdata (s : State) (nbits w : Nat) : (State.withFetchWord s nbits w).rdata = s.rdata := rfl
@[simp] theorem withFetchWord_draws (s : State) (nbits w : Nat) : (State.withFetchWord s nbits w).draws = s.draws := rfl

/-! ### resetCore -/

@[simp] theorem resetCore_ie (s : State) : (State.resetCore s).ie = false := rfl
@[simp] theorem resetCore_status (s : State) : (State.resetCore s).status = ⟨false, false, false, false⟩ := rfl
@[simp] theorem resetCore_errcode (s : State) : (State.resetCore s).errcode = .none := rfl
@[simp] theorem resetCore_cfg (s : State) : (State.resetCore s).cfg = ⟨1#6, .L, 4#3⟩ := rfl
@[simp] theorem resetCore_opa (s : State) : (State.resetCore s).opa = 0#8 := rfl
@[simp] theorem resetCore_opb (s : State) : (State.resetCore s).opb = 0#8 := rfl
@[simp] theorem resetCore_result (s : State) : (State.resetCore s).result = 0#8 := rfl
@[simp] theorem resetCore_mem (s : State) : (State.resetCore s).mem = [] := rfl
@[simp] theorem resetCore_planes (s : State) : (State.resetCore s).planes = ⟨Plane.unwritten, Plane.unwritten⟩ := rfl
@[simp] theorem resetCore_running (s : State) : (State.resetCore s).running = none := rfl
@[simp] theorem resetCore_script (s : State) : (State.resetCore s).script = s.script := rfl
@[simp] theorem resetCore_rdata (s : State) : (State.resetCore s).rdata = s.rdata := rfl
@[simp] theorem resetCore_draws (s : State) : (State.resetCore s).draws = s.draws := rfl

/-! ### acknowledge -/

@[simp] theorem acknowledge_ie (v : Word) (s : State) : (acknowledge v s).ie = s.ie := rfl
@[simp] theorem acknowledge_errcode (v : Word) (s : State) : (acknowledge v s).errcode = s.errcode := rfl
@[simp] theorem acknowledge_cfg (v : Word) (s : State) : (acknowledge v s).cfg = s.cfg := rfl
@[simp] theorem acknowledge_opa (v : Word) (s : State) : (acknowledge v s).opa = s.opa := rfl
@[simp] theorem acknowledge_opb (v : Word) (s : State) : (acknowledge v s).opb = s.opb := rfl
@[simp] theorem acknowledge_result (v : Word) (s : State) : (acknowledge v s).result = s.result := rfl
@[simp] theorem acknowledge_mem (v : Word) (s : State) : (acknowledge v s).mem = s.mem := rfl
@[simp] theorem acknowledge_planes (v : Word) (s : State) : (acknowledge v s).planes = s.planes := rfl
@[simp] theorem acknowledge_running (v : Word) (s : State) : (acknowledge v s).running = s.running := rfl
@[simp] theorem acknowledge_script (v : Word) (s : State) : (acknowledge v s).script = s.script := rfl
@[simp] theorem acknowledge_rdata (v : Word) (s : State) : (acknowledge v s).rdata = s.rdata := rfl
@[simp] theorem acknowledge_draws (v : Word) (s : State) : (acknowledge v s).draws = s.draws := rfl
@[simp] theorem acknowledge_status_done (v : Word) (s : State) :
    (acknowledge v s).status.done = (s.status.done && !v.getLsbD 1) := rfl
@[simp] theorem acknowledge_status_err (v : Word) (s : State) :
    (acknowledge v s).status.err = (s.status.err && !v.getLsbD 2) := rfl
@[simp] theorem acknowledge_status_synz (v : Word) (s : State) :
    (acknowledge v s).status.synz = (s.status.synz) := rfl
@[simp] theorem acknowledge_status_ovr (v : Word) (s : State) :
    (acknowledge v s).status.ovr = (s.status.ovr && !v.getLsbD 4) := rfl

/-! ### BUSY -/

@[simp] theorem busy_finish (s : State) : (State.finish s).busy = false := rfl
@[simp] theorem busy_fail (code : ErrCode) (s : State) : (State.fail code s).busy = false := rfl
@[simp] theorem busy_accept (w : Word) (s : State) : (State.accept w s).busy = true := rfl
@[simp] theorem busy_resetCore (s : State) : (State.resetCore s).busy = false := rfl
theorem busy_iff_running (s : State) : s.busy = true ↔ ∃ r, s.running = some r := by
  simp [State.busy, Option.isSome_iff_exists]

end Sys2Proof.Laws
end

