-- ==== Sys2Proof/Laws/Bodies.lean ====
section
/-! SUPPORT. The frame of each command's effect: what its body leaves as it was, one lemma per field. -/

namespace Sys2Proof.Laws

open Sys2Proof.Machine

/-! ### eccBody -/

@[simp] theorem eccBody_ie (g : Geometry) (b : Nat) (s : State) : (eccBody g b s).ie = s.ie := by simp [eccBody]
@[simp] theorem eccBody_status (g : Geometry) (b : Nat) (s : State) : (eccBody g b s).status = s.status := by simp [eccBody]
@[simp] theorem eccBody_errcode (g : Geometry) (b : Nat) (s : State) : (eccBody g b s).errcode = s.errcode := by simp [eccBody]
@[simp] theorem eccBody_cfg (g : Geometry) (b : Nat) (s : State) : (eccBody g b s).cfg = s.cfg := by simp [eccBody]
@[simp] theorem eccBody_opa (g : Geometry) (b : Nat) (s : State) : (eccBody g b s).opa = s.opa := by simp [eccBody]
@[simp] theorem eccBody_opb (g : Geometry) (b : Nat) (s : State) : (eccBody g b s).opb = s.opb := by simp [eccBody]
@[simp] theorem eccBody_result (g : Geometry) (b : Nat) (s : State) : (eccBody g b s).result = s.result := by simp [eccBody]
@[simp] theorem eccBody_running (g : Geometry) (b : Nat) (s : State) : (eccBody g b s).running = s.running := by simp [eccBody]
@[simp] theorem eccBody_script (g : Geometry) (b : Nat) (s : State) : (eccBody g b s).script = s.script := by simp [eccBody]
@[simp] theorem eccBody_rdata (g : Geometry) (b : Nat) (s : State) : (eccBody g b s).rdata = s.rdata := by simp [eccBody]
@[simp] theorem eccBody_planes (g : Geometry) (b : Nat) (s : State) : (eccBody g b s).planes = s.planes := by simp [eccBody]

/-! ### eccAllBody -/

@[simp] theorem eccAllBody_ie (g : Geometry) (s : State) : (eccAllBody g s).ie = s.ie := by simp [eccAllBody]
@[simp] theorem eccAllBody_status (g : Geometry) (s : State) : (eccAllBody g s).status = s.status := by simp [eccAllBody]
@[simp] theorem eccAllBody_errcode (g : Geometry) (s : State) : (eccAllBody g s).errcode = s.errcode := by simp [eccAllBody]
@[simp] theorem eccAllBody_cfg (g : Geometry) (s : State) : (eccAllBody g s).cfg = s.cfg := by simp [eccAllBody]
@[simp] theorem eccAllBody_opa (g : Geometry) (s : State) : (eccAllBody g s).opa = s.opa := by simp [eccAllBody]
@[simp] theorem eccAllBody_opb (g : Geometry) (s : State) : (eccAllBody g s).opb = s.opb := by simp [eccAllBody]
@[simp] theorem eccAllBody_result (g : Geometry) (s : State) : (eccAllBody g s).result = s.result := by simp [eccAllBody]
@[simp] theorem eccAllBody_running (g : Geometry) (s : State) : (eccAllBody g s).running = s.running := by simp [eccAllBody]
@[simp] theorem eccAllBody_script (g : Geometry) (s : State) : (eccAllBody g s).script = s.script := by simp [eccAllBody]
@[simp] theorem eccAllBody_rdata (g : Geometry) (s : State) : (eccAllBody g s).rdata = s.rdata := by simp [eccAllBody]
@[simp] theorem eccAllBody_planes (g : Geometry) (s : State) : (eccAllBody g s).planes = s.planes := by simp [eccAllBody]

/-! ### interleaveBody -/

@[simp] theorem interleaveBody_ie (g : Geometry) (s : State) : (interleaveBody g s).ie = s.ie := by simp [interleaveBody]
@[simp] theorem interleaveBody_status (g : Geometry) (s : State) : (interleaveBody g s).status = s.status := by simp [interleaveBody]
@[simp] theorem interleaveBody_errcode (g : Geometry) (s : State) : (interleaveBody g s).errcode = s.errcode := by simp [interleaveBody]
@[simp] theorem interleaveBody_cfg (g : Geometry) (s : State) : (interleaveBody g s).cfg = s.cfg := by simp [interleaveBody]
@[simp] theorem interleaveBody_opa (g : Geometry) (s : State) : (interleaveBody g s).opa = s.opa := by simp [interleaveBody]
@[simp] theorem interleaveBody_opb (g : Geometry) (s : State) : (interleaveBody g s).opb = s.opb := by simp [interleaveBody]
@[simp] theorem interleaveBody_result (g : Geometry) (s : State) : (interleaveBody g s).result = s.result := by simp [interleaveBody]
@[simp] theorem interleaveBody_running (g : Geometry) (s : State) : (interleaveBody g s).running = s.running := by simp [interleaveBody]
@[simp] theorem interleaveBody_script (g : Geometry) (s : State) : (interleaveBody g s).script = s.script := by simp [interleaveBody]
@[simp] theorem interleaveBody_rdata (g : Geometry) (s : State) : (interleaveBody g s).rdata = s.rdata := by simp [interleaveBody]
@[simp] theorem interleaveBody_planes (g : Geometry) (s : State) : (interleaveBody g s).planes = s.planes := by simp [interleaveBody]

/-! ### encodeBody -/

@[simp] theorem encodeBody_ie (g : Geometry) (s : State) : (encodeBody g s).ie = s.ie := by simp [encodeBody]
@[simp] theorem encodeBody_status (g : Geometry) (s : State) : (encodeBody g s).status = s.status := by simp [encodeBody]
@[simp] theorem encodeBody_errcode (g : Geometry) (s : State) : (encodeBody g s).errcode = s.errcode := by simp [encodeBody]
@[simp] theorem encodeBody_cfg (g : Geometry) (s : State) : (encodeBody g s).cfg = s.cfg := by simp [encodeBody]
@[simp] theorem encodeBody_opa (g : Geometry) (s : State) : (encodeBody g s).opa = s.opa := by simp [encodeBody]
@[simp] theorem encodeBody_opb (g : Geometry) (s : State) : (encodeBody g s).opb = s.opb := by simp [encodeBody]
@[simp] theorem encodeBody_result (g : Geometry) (s : State) : (encodeBody g s).result = s.result := by simp [encodeBody]
@[simp] theorem encodeBody_running (g : Geometry) (s : State) : (encodeBody g s).running = s.running := by simp [encodeBody]
@[simp] theorem encodeBody_script (g : Geometry) (s : State) : (encodeBody g s).script = s.script := by simp [encodeBody]
@[simp] theorem encodeBody_rdata (g : Geometry) (s : State) : (encodeBody g s).rdata = s.rdata := by simp [encodeBody]
@[simp] theorem encodeBody_planes (g : Geometry) (s : State) : (encodeBody g s).planes = s.planes := by simp [encodeBody]

/-! ### syndBody -/

@[simp] theorem syndBody_ie (g : Geometry) (b : Nat) (s : State) : (syndBody g b s).ie = s.ie := by simp [syndBody]
@[simp] theorem syndBody_errcode (g : Geometry) (b : Nat) (s : State) : (syndBody g b s).errcode = s.errcode := by simp [syndBody]
@[simp] theorem syndBody_cfg (g : Geometry) (b : Nat) (s : State) : (syndBody g b s).cfg = s.cfg := by simp [syndBody]
@[simp] theorem syndBody_opa (g : Geometry) (b : Nat) (s : State) : (syndBody g b s).opa = s.opa := by simp [syndBody]
@[simp] theorem syndBody_opb (g : Geometry) (b : Nat) (s : State) : (syndBody g b s).opb = s.opb := by simp [syndBody]
@[simp] theorem syndBody_result (g : Geometry) (b : Nat) (s : State) : (syndBody g b s).result = s.result := by simp [syndBody]
@[simp] theorem syndBody_running (g : Geometry) (b : Nat) (s : State) : (syndBody g b s).running = s.running := by simp [syndBody]
@[simp] theorem syndBody_script (g : Geometry) (b : Nat) (s : State) : (syndBody g b s).script = s.script := by simp [syndBody]
@[simp] theorem syndBody_rdata (g : Geometry) (b : Nat) (s : State) : (syndBody g b s).rdata = s.rdata := by simp [syndBody]
@[simp] theorem syndBody_done (g : Geometry) (b : Nat) (s : State) : (syndBody g b s).status.done = s.status.done := by simp [syndBody]
@[simp] theorem syndBody_err (g : Geometry) (b : Nat) (s : State) : (syndBody g b s).status.err = s.status.err := by simp [syndBody]
@[simp] theorem syndBody_ovr (g : Geometry) (b : Nat) (s : State) : (syndBody g b s).status.ovr = s.status.ovr := by simp [syndBody]
@[simp] theorem syndBody_planes (g : Geometry) (b : Nat) (s : State) : (syndBody g b s).planes = s.planes := by simp [syndBody]

/-! ### clearBody -/

@[simp] theorem clearBody_ie (s : State) : (clearBody s).ie = s.ie := by simp [clearBody]
@[simp] theorem clearBody_status (s : State) : (clearBody s).status = s.status := by simp [clearBody]
@[simp] theorem clearBody_errcode (s : State) : (clearBody s).errcode = s.errcode := by simp [clearBody]
@[simp] theorem clearBody_cfg (s : State) : (clearBody s).cfg = s.cfg := by simp [clearBody]
@[simp] theorem clearBody_opa (s : State) : (clearBody s).opa = s.opa := by simp [clearBody]
@[simp] theorem clearBody_opb (s : State) : (clearBody s).opb = s.opb := by simp [clearBody]
@[simp] theorem clearBody_result (s : State) : (clearBody s).result = s.result := by simp [clearBody]
@[simp] theorem clearBody_running (s : State) : (clearBody s).running = s.running := by simp [clearBody]
@[simp] theorem clearBody_script (s : State) : (clearBody s).script = s.script := by simp [clearBody]
@[simp] theorem clearBody_rdata (s : State) : (clearBody s).rdata = s.rdata := by simp [clearBody]
@[simp] theorem clearBody_mem (s : State) : (clearBody s).mem = s.mem := by simp [clearBody]

/-! ### templateBody -/

@[simp] theorem templateBody_ie (g : Geometry) (s : State) : (templateBody g s).ie = s.ie := by simp [templateBody]
@[simp] theorem templateBody_status (g : Geometry) (s : State) : (templateBody g s).status = s.status := by simp [templateBody]
@[simp] theorem templateBody_errcode (g : Geometry) (s : State) : (templateBody g s).errcode = s.errcode := by simp [templateBody]
@[simp] theorem templateBody_cfg (g : Geometry) (s : State) : (templateBody g s).cfg = s.cfg := by simp [templateBody]
@[simp] theorem templateBody_opa (g : Geometry) (s : State) : (templateBody g s).opa = s.opa := by simp [templateBody]
@[simp] theorem templateBody_opb (g : Geometry) (s : State) : (templateBody g s).opb = s.opb := by simp [templateBody]
@[simp] theorem templateBody_result (g : Geometry) (s : State) : (templateBody g s).result = s.result := by simp [templateBody]
@[simp] theorem templateBody_running (g : Geometry) (s : State) : (templateBody g s).running = s.running := by simp [templateBody]
@[simp] theorem templateBody_script (g : Geometry) (s : State) : (templateBody g s).script = s.script := by simp [templateBody]
@[simp] theorem templateBody_rdata (g : Geometry) (s : State) : (templateBody g s).rdata = s.rdata := by simp [templateBody]
@[simp] theorem templateBody_mem (g : Geometry) (s : State) : (templateBody g s).mem = s.mem := by simp [templateBody]

/-! ### verinfoBody -/

@[simp] theorem verinfoBody_ie (g : Geometry) (s : State) : (verinfoBody g s).ie = s.ie := by simp [verinfoBody]
@[simp] theorem verinfoBody_status (g : Geometry) (s : State) : (verinfoBody g s).status = s.status := by simp [verinfoBody]
@[simp] theorem verinfoBody_errcode (g : Geometry) (s : State) : (verinfoBody g s).errcode = s.errcode := by simp [verinfoBody]
@[simp] theorem verinfoBody_cfg (g : Geometry) (s : State) : (verinfoBody g s).cfg = s.cfg := by simp [verinfoBody]
@[simp] theorem verinfoBody_opa (g : Geometry) (s : State) : (verinfoBody g s).opa = s.opa := by simp [verinfoBody]
@[simp] theorem verinfoBody_opb (g : Geometry) (s : State) : (verinfoBody g s).opb = s.opb := by simp [verinfoBody]
@[simp] theorem verinfoBody_result (g : Geometry) (s : State) : (verinfoBody g s).result = s.result := by simp [verinfoBody]
@[simp] theorem verinfoBody_running (g : Geometry) (s : State) : (verinfoBody g s).running = s.running := by simp [verinfoBody]
@[simp] theorem verinfoBody_script (g : Geometry) (s : State) : (verinfoBody g s).script = s.script := by simp [verinfoBody]
@[simp] theorem verinfoBody_rdata (g : Geometry) (s : State) : (verinfoBody g s).rdata = s.rdata := by simp [verinfoBody]
@[simp] theorem verinfoBody_mem (g : Geometry) (s : State) : (verinfoBody g s).mem = s.mem := by simp [verinfoBody]

/-! ### placeBody -/

@[simp] theorem placeBody_ie (g : Geometry) (s : State) : (placeBody g s).ie = s.ie := by simp [placeBody, placeBodyWith]
@[simp] theorem placeBody_status (g : Geometry) (s : State) : (placeBody g s).status = s.status := by simp [placeBody, placeBodyWith]
@[simp] theorem placeBody_errcode (g : Geometry) (s : State) : (placeBody g s).errcode = s.errcode := by simp [placeBody, placeBodyWith]
@[simp] theorem placeBody_cfg (g : Geometry) (s : State) : (placeBody g s).cfg = s.cfg := by simp [placeBody, placeBodyWith]
@[simp] theorem placeBody_opa (g : Geometry) (s : State) : (placeBody g s).opa = s.opa := by simp [placeBody, placeBodyWith]
@[simp] theorem placeBody_opb (g : Geometry) (s : State) : (placeBody g s).opb = s.opb := by simp [placeBody, placeBodyWith]
@[simp] theorem placeBody_result (g : Geometry) (s : State) : (placeBody g s).result = s.result := by simp [placeBody, placeBodyWith]
@[simp] theorem placeBody_running (g : Geometry) (s : State) : (placeBody g s).running = s.running := by simp [placeBody, placeBodyWith]
@[simp] theorem placeBody_script (g : Geometry) (s : State) : (placeBody g s).script = s.script := by simp [placeBody, placeBodyWith]
@[simp] theorem placeBody_rdata (g : Geometry) (s : State) : (placeBody g s).rdata = s.rdata := by simp [placeBody, placeBodyWith]
@[simp] theorem placeBody_mem (g : Geometry) (s : State) : (placeBody g s).mem = s.mem := by simp [placeBody, placeBodyWith]
@[simp] theorem placeBody_rsv (g : Geometry) (s : State) : (placeBody g s).planes.rsv = s.planes.rsv := by simp [placeBody, placeBodyWith]

/-! ### formatBody -/

@[simp] theorem formatBody_ie (g : Geometry) (s : State) : (formatBody g s).ie = s.ie := by simp [formatBody, formatBodyWith]
@[simp] theorem formatBody_status (g : Geometry) (s : State) : (formatBody g s).status = s.status := by simp [formatBody, formatBodyWith]
@[simp] theorem formatBody_errcode (g : Geometry) (s : State) : (formatBody g s).errcode = s.errcode := by simp [formatBody, formatBodyWith]
@[simp] theorem formatBody_cfg (g : Geometry) (s : State) : (formatBody g s).cfg = s.cfg := by simp [formatBody, formatBodyWith]
@[simp] theorem formatBody_opa (g : Geometry) (s : State) : (formatBody g s).opa = s.opa := by simp [formatBody, formatBodyWith]
@[simp] theorem formatBody_opb (g : Geometry) (s : State) : (formatBody g s).opb = s.opb := by simp [formatBody, formatBodyWith]
@[simp] theorem formatBody_result (g : Geometry) (s : State) : (formatBody g s).result = s.result := by simp [formatBody, formatBodyWith]
@[simp] theorem formatBody_running (g : Geometry) (s : State) : (formatBody g s).running = s.running := by simp [formatBody, formatBodyWith]
@[simp] theorem formatBody_script (g : Geometry) (s : State) : (formatBody g s).script = s.script := by simp [formatBody, formatBodyWith]
@[simp] theorem formatBody_rdata (g : Geometry) (s : State) : (formatBody g s).rdata = s.rdata := by simp [formatBody, formatBodyWith]
@[simp] theorem formatBody_mem (g : Geometry) (s : State) : (formatBody g s).mem = s.mem := by simp [formatBody, formatBodyWith]

/-! ### buildBody -/

@[simp] theorem buildBody_ie (g : Geometry) (s : State) : (buildBody g s).ie = s.ie := by simp [buildBody]
@[simp] theorem buildBody_status (g : Geometry) (s : State) : (buildBody g s).status = s.status := by simp [buildBody]
@[simp] theorem buildBody_errcode (g : Geometry) (s : State) : (buildBody g s).errcode = s.errcode := by simp [buildBody]
@[simp] theorem buildBody_cfg (g : Geometry) (s : State) : (buildBody g s).cfg = s.cfg := by simp [buildBody]
@[simp] theorem buildBody_opa (g : Geometry) (s : State) : (buildBody g s).opa = s.opa := by simp [buildBody]
@[simp] theorem buildBody_opb (g : Geometry) (s : State) : (buildBody g s).opb = s.opb := by simp [buildBody]
@[simp] theorem buildBody_result (g : Geometry) (s : State) : (buildBody g s).result = s.result := by simp [buildBody]
@[simp] theorem buildBody_running (g : Geometry) (s : State) : (buildBody g s).running = s.running := by simp [buildBody]
@[simp] theorem buildBody_script (g : Geometry) (s : State) : (buildBody g s).script = s.script := by simp [buildBody]
@[simp] theorem buildBody_rdata (g : Geometry) (s : State) : (buildBody g s).rdata = s.rdata := by simp [buildBody]
@[simp] theorem buildBody_mem (g : Geometry) (s : State) : (buildBody g s).mem = s.mem := by simp [buildBody]

/-! ### The blocks the Reed-Solomon bodies read -/

@[simp] theorem dataBlock_length (s : State) (g : Geometry) (b : Nat) : (dataBlock s g b).length = g.len b := by
  simp [dataBlock]

@[simp] theorem eccBlock_length (s : State) (g : Geometry) (b : Nat) : (eccBlock s g b).length = g.ecc := by
  simp [eccBlock]

/-- Codeword j of a data block is the byte read at its place in DATA (R131). -/
theorem dataBlock_getElem? (s : State) (g : Geometry) {b j : Nat} (h : j < g.len b) :
    (dataBlock s g b)[j]? = some (readByte s 0 (dataBase + (g.start b + j))) := by
  simp [dataBlock, h]

/-- Correction codeword i of a block is the byte read at its place in ECC (R132). -/
theorem eccBlock_getElem? (s : State) (g : Geometry) {b i : Nat} (h : i < g.ecc) :
    (eccBlock s g b)[i]? = some (readByte s 0 (eccBase + (b * g.ecc + i))) := by
  simp [eccBlock, h]

end Sys2Proof.Laws
end

