-- ==== Sys2Proof/Laws/Geometry.lean ====
section
/-! SUPPORT. What the structure table guarantees of every valid configuration: the bounds that the buffers and planes rest
on. -/

namespace Sys2Proof.Laws

open Sys2Proof.Machine

/-- The bounds of the quantities of one valid version and level. -/
structure GeometryBounds (g : Geometry) : Prop where
  version_pos : 1 ≤ g.version
  version_le : g.version ≤ 40
  size_eq : g.size = 21 + 4 * (g.version - 1)
  blocks_pos : 1 ≤ g.blocks
  blocks_le : g.blocks ≤ 81
  ecc_ge : 7 ≤ g.ecc
  ecc_le : g.ecc ≤ 30
  data_ge : 9 ≤ g.data
  blocks_le_data : g.blocks ≤ g.data
  total_le : g.total ≤ 3706
  eccs_le : g.blocks * g.ecc ≤ 2430
  rem_le : g.rem ≤ 7
  short_lt : g.short < 256

/-- The bounds as one Bool, to be decided on the table. -/
def boundsOk (g : Geometry) : Bool :=
  decide (1 ≤ g.version ∧ g.version ≤ 40 ∧ g.size = 21 + 4 * (g.version - 1) ∧ 1 ≤ g.blocks ∧ g.blocks ≤ 81 ∧
    7 ≤ g.ecc ∧ g.ecc ≤ 30 ∧ 9 ≤ g.data ∧ g.blocks ≤ g.data ∧ g.total ≤ 3706 ∧ g.blocks * g.ecc ≤ 2430 ∧
    g.rem ≤ 7 ∧ g.short < 256)

/-- Every row of the table meets the bounds. -/
theorem bounds_table : ∀ v < 41, ∀ l ∈ [Level.L, .M, .Q, .H],
    ((geometryOf v l).all boundsOk) = true := by
  decide +kernel

/-- A valid version is in 1..40. -/
theorem version_range {v : Nat} {l : Level} {g : Geometry} (h : geometryOf v l = some g) : 1 ≤ v ∧ v ≤ 40 := by
  simp only [geometryOf, structRow, Option.map_eq_some_iff] at h
  obtain ⟨row, h, -⟩ := h
  split at h
  · assumption
  · simp at h

/-- The bounds hold of whatever a version and level select. -/
theorem bounds_of_geometryOf {v : Nat} {l : Level} {g : Geometry} (h : geometryOf v l = some g) :
    GeometryBounds g := by
  have hl : l ∈ [Level.L, .M, .Q, .H] := by cases l <;> simp
  have hb := bounds_table v (by have := version_range h; omega) l hl
  rw [h] at hb
  simp only [Option.all_some, boundsOk, decide_eq_true_eq] at hb
  obtain ⟨h1, h2, h3, h4, h5, h6, h7, h8, h9, h10, h11, h12, h13⟩ := hb
  exact ⟨h1, h2, h3, h4, h5, h6, h7, h8, h9, h10, h11, h12, h13⟩

/-- The bounds hold of whatever CFG selects. -/
theorem bounds_of_geometry {cfg : Cfg} {g : Geometry} (h : geometry cfg = some g) : GeometryBounds g :=
  bounds_of_geometryOf h

/-- Every version of 1..40 is valid at every level. -/
theorem geometryOf_isSome : ∀ v < 41, 1 ≤ v → ∀ l ∈ [Level.L, .M, .Q, .H], (geometryOf v l).isSome = true := by
  decide +kernel

/-- CFG selects something exactly when VERSION is in 1..40 (R28). -/
theorem geometry_isSome_iff (cfg : Cfg) :
    (geometry cfg).isSome = true ↔ 1 ≤ cfg.version.toNat ∧ cfg.version.toNat ≤ 40 := by
  constructor
  · intro h
    obtain ⟨g, hg⟩ := Option.isSome_iff_exists.1 h
    exact version_range hg
  · intro h
    exact geometryOf_isSome _ (by omega) h.1 _ (by cases cfg.level <;> simp)

end Sys2Proof.Laws
end

