-- ==== Sys2Proof/Laws/Exec.lean ====
section
/-! SUPPORT. What each shared operation of the machine can do, said once: the "needs version" check, the end of a command,
the service of a host action, one step. -/

namespace Sys2Proof.Laws

open Sys2Proof.Machine

@[simp] theorem succeed_eq (s : State) : succeed s = .next s.finish := rfl

@[simp] theorem raise_eq (code : ErrCode) (s : State) : raise code s = .next (s.fail code) := rfl

/-- With a valid version the command goes on with what CFG selects. -/
theorem withGeometry_some {s : State} {g : Geometry} (h : geometry s.cfg = some g) (body : Geometry → Result) :
    withGeometry s body = body g := by
  simp [withGeometry, h]

/-- With an invalid version the command ends with BAD_CONFIG. -/
theorem withGeometry_none {s : State} (h : geometry s.cfg = none) (body : Geometry → Result) :
    withGeometry s body = .next (s.fail .badConfig) := by
  simp [withGeometry, h]

/-- The two ways a "needs version" command goes. -/
theorem withGeometry_cases (s : State) (body : Geometry → Result) :
    (geometry s.cfg = none ∧ withGeometry s body = .next (s.fail .badConfig)) ∨
      ∃ g, geometry s.cfg = some g ∧ GeometryBounds g ∧ withGeometry s body = body g := by
  cases h : geometry s.cfg with
  | none => exact .inl ⟨rfl, withGeometry_none h body⟩
  | some g => exact .inr ⟨g, rfl, bounds_of_geometry h, withGeometry_some h body⟩

/-- What a step is: the accepted word is carried out, or a host action is served, or nothing is pending. -/
theorem step_cases (s : State) :
    (∃ r, s.running = some r ∧ (r.wait = 0 ∨ s.script = []) ∧ step s = runWord r.word s) ∨
    (∃ r op rest, s.running = some r ∧ r.wait ≠ 0 ∧ s.script = op :: rest ∧
      step s = .next (serve op { s with script := rest, running := some { r with wait := r.wait - 1 } })) ∨
    (∃ op rest, s.running = none ∧ s.script = op :: rest ∧ step s = .next (serve op { s with script := rest })) ∨
    (s.running = none ∧ s.script = [] ∧ step s = .next s) := by
  cases hr : s.running with
  | none =>
    cases hs : s.script with
    | nil => exact .inr (.inr (.inr ⟨rfl, rfl, by simp [step, hr, hostStep, hs]⟩))
    | cons op rest => exact .inr (.inr (.inl ⟨op, rest, rfl, rfl, by simp [step, hr, hostStep, hs]⟩))
  | some r =>
    by_cases hw : r.wait = 0 ∨ s.script = []
    · exact .inl ⟨r, rfl, hw, by simp [step, hr, busyStep, hw]⟩
    · obtain ⟨hw0, hs0⟩ := not_or.1 hw
      obtain ⟨op, rest, hs⟩ := List.exists_cons_of_ne_nil hs0
      exact .inr (.inl ⟨r, op, rest, rfl, hw0, hs, by simp [step, hr, busyStep, hw0, hostStep, hs]⟩)

/-- With the engine idle, a step serves the host's next action. -/
theorem step_idle {s : State} {op : HostOp} {rest : List HostOp} (hr : s.running = none)
    (hs : s.script = op :: rest) : step s = .next (serve op { s with script := rest }) := by
  simp [step, hr, hostStep, hs]

/-- While a command is in progress and its latency has not passed, a step serves the host's next action. -/
theorem step_served {s : State} {r : Running} {op : HostOp} {rest : List HostOp} (hr : s.running = some r)
    (hw : r.wait ≠ 0) (hs : s.script = op :: rest) :
    step s = .next (serve op { s with script := rest, running := some ⟨r.word, r.wait - 1⟩ }) := by
  simp [step, hr, busyStep, hostStep, hw, hs]

/-- A command whose latency has passed, or that no host action can precede, is carried out. -/
theorem step_ends {s : State} {r : Running} (hr : s.running = some r) (hw : r.wait = 0 ∨ s.script = []) :
    step s = runWord r.word s := by
  simp [step, hr, busyStep, hw]

/-- One step of a run. -/
theorem run_succ {k : Nat} {s t : State} (h : step s = .next t) :
    Sys2Proof.core.run (k + 1) s = Sys2Proof.core.run k t := by
  have h' : Sys2Proof.core.step s = .next t := h
  simp only [Host.Core.run]
  rw [h']

/-- What carrying out a word is: the command it encodes, or ILLEGAL_CMD. -/
theorem runWord_cases (w : Word) (s : State) :
    (∃ i, decode w = .ok i ∧ runWord w s = exec i s) ∨
      (∃ e, decode w = .error e ∧ runWord w s = .next (s.fail .illegalCmd)) := by
  cases h : decode w with
  | ok i => exact .inl ⟨i, rfl, by simp [runWord, h]⟩
  | error e => exact .inr ⟨e, rfl, by simp [runWord, h]⟩

/-- What a host write is: dropped with OVR set, or performed. -/
theorem hostWrite_cases (w : Width) (off : Offset) (v : Word) (s : State) :
    (s.busy = true ∧ off ≠ 0x004 ∧ off ≠ 0x008 ∧ hostWrite w off v s = s.setOvr) ∨
      (¬(s.busy = true ∧ off ≠ 0x004 ∧ off ≠ 0x008) ∧ hostWrite w off v s = performWrite w off v s) := by
  by_cases h : s.busy = true ∧ off ≠ 0x004 ∧ off ≠ 0x008
  · exact .inl ⟨h.1, h.2.1, h.2.2, by rw [hostWrite, if_pos h]⟩
  · exact .inr ⟨h, by rw [hostWrite, if_neg h]⟩

/-- While a command is in progress the writes that are performed are those at CTRL and STATUS (R254). -/
theorem performed_while_busy {s : State} {off : Offset} (hb : s.busy = true)
    (h : ¬(s.busy = true ∧ off ≠ 0x004 ∧ off ≠ 0x008)) : off = 0x004 ∨ off = 0x008 := by
  by_contra hc
  exact h ⟨hb, fun h4 => hc (.inl h4), fun h8 => hc (.inr h8)⟩

/-- A write at CTRL is a word write of the register, or nothing. -/
theorem performWrite_ctrl (w : Width) (v : Word) (s : State) :
    performWrite w 0x004 v s = if w = .word then writeCtrl v s else s := by
  cases w <;> rfl

/-- A write at STATUS is a word write of the register, or nothing. -/
theorem performWrite_status (w : Width) (v : Word) (s : State) :
    performWrite w 0x008 v s = if w = .word then acknowledge v s else s := by
  cases w <;> rfl

end Sys2Proof.Laws
end

