-- ==== Sys2Proof/Laws/Host.lean ====
section
/-! SUPPORT. What the assembler's lines and the run of a script can do: a line that is accepted drops no bit of its offset or
of its value (30_encoding.md R97), and a script runs step by step until it is quiet (48_host_stages.md R206). -/

namespace Sys2Proof.Laws

open Sys2Proof.Machine

/-- A valid target lies in the window. -/
theorem offset_lt_of_valid {t : Target} (h : t.valid = true) : t.offset < 2 ^ 17 := by
  cases t with
  | reg r => cases r <;> decide
  | buf b n => cases b <;> simp [Target.valid, Target.offset, BufName.base, dataBase, eccBase, seqBase] at h ⊢ <;> omega
  | synd n => simp [Target.valid, Target.offset, syndBase] at h ⊢; omega
  | mx r c => simp [Target.valid, Target.offset, matrixBase] at h ⊢; omega
  | raw off => simpa [Target.valid, Target.offset] using h

/-- A write line that is accepted is one write whose offset and value are exactly those written in the line. -/
theorem storeLine_exact {w : Width} {t : Target} {v : Nat} {ops : List HostOp} (h : storeLine w t v = some ops) :
    ∃ (off : Offset) (x : Word), ops = [.write w off x] ∧ off.toNat = t.offset ∧ x.toNat = v := by
  unfold storeLine at h
  split at h
  · rename_i hv
    refine ⟨_, _, (Option.some.inj h).symm, ?_, ?_⟩
    · simpa using Nat.mod_eq_of_lt (offset_lt_of_valid hv.1)
    · have : v < 2 ^ 32 := Nat.lt_of_lt_of_le hv.2 (by cases w <;> decide)
      simpa using Nat.mod_eq_of_lt this
  · cases h

/-- A read line that is accepted is one read at exactly the line's offset. -/
theorem loadLine_exact {w : Width} {t : Target} {ops : List HostOp} (h : loadLine w t = some ops) :
    ∃ off : Offset, ops = [.read w off] ∧ off.toNat = t.offset := by
  unfold loadLine at h
  split at h
  · rename_i hv
    exact ⟨_, (Option.some.inj h).symm, by simpa using Nat.mod_eq_of_lt (offset_lt_of_valid hv)⟩
  · cases h

/-- LDA is accepted exactly when its value fits 32 bits. -/
theorem expand_lda_isSome (x : Nat) : ((Line.lda x).expand).isSome = true ↔ x < 2 ^ 32 := by
  simp [Line.expand, storeLine, Target.valid, Width.bytes]

/-- LDB is accepted exactly when its value fits 32 bits. -/
theorem expand_ldb_isSome (x : Nat) : ((Line.ldb x).expand).isSome = true ↔ x < 2 ^ 32 := by
  simp [Line.expand, storeLine, Target.valid, Width.bytes]

/-- LOAD is accepted exactly when it lists a byte and all its bytes lie in the buffer, so its target is valid. -/
theorem expand_load_isSome (b : BufName) (n : Nat) (bytes : List Byte) :
    ((Line.load b n bytes).expand).isSome = true ↔ bytes ≠ [] ∧ n + bytes.length ≤ 4096 := by
  simp [Line.expand]

theorem valid_of_expand_load {b : BufName} {n : Nat} {bytes : List Byte}
    (h : ((Line.load b n bytes).expand).isSome = true) : (Target.buf b n).valid = true := by
  obtain ⟨h1, h2⟩ := (expand_load_isSome b n bytes).1 h
  have := List.length_pos_iff.2 h1
  simp only [Target.valid, decide_eq_true_eq]
  omega

/-- A script that is quiet has ended. -/
theorem runScript_quiet {s : State} (h : s.quiet = true) (fuel : Nat) : runScript fuel s = some s := by
  cases fuel <;> simp [runScript, h]

/-- A script that is not quiet goes on by one step. -/
theorem runScript_step {s t : State} (h : s.quiet = false) (hs : step s = .next t) (fuel : Nat) :
    runScript (fuel + 1) s = runScript fuel t := by
  simp [runScript, h, hs]

end Sys2Proof.Laws
end

