-- ==== Sys2Proof/Laws/Memory.lean ====
section
/-! SUPPORT. The laws of the buffers: reading after writing, and the canonical form. -/

namespace Sys2Proof.Laws

open Sys2Proof.Machine

@[simp] theorem lookup_nil (a : Nat) : Memory.lookup [] a = none := rfl

/-- A byte just written reads as written. -/
@[simp] theorem lookup_store_same (m : Memory) (a : Nat) (v : Byte) :
    Memory.lookup (Memory.store m a v) a = some v := by
  induction m with
  | nil => simp [Memory.store, Memory.lookup]
  | cons cell m ih =>
    obtain ⟨x, w⟩ := cell
    simp only [Memory.store]
    split
    · simp [Memory.lookup]
    · split
      · simp [Memory.lookup]
      · simp [Memory.lookup, *]

/-- A write leaves every other byte alone. -/
theorem lookup_store_ne (m : Memory) {a b : Nat} (v : Byte) (h : b ≠ a) :
    Memory.lookup (Memory.store m a v) b = Memory.lookup m b := by
  induction m with
  | nil => simp [Memory.store, Memory.lookup, Ne.symm h]
  | cons cell m ih =>
    obtain ⟨x, w⟩ := cell
    simp only [Memory.store]
    split
    · simp [Memory.lookup, Ne.symm h]
    · split
      · rename_i hx
        subst hx
        simp [Memory.lookup, Ne.symm h]
      · simp [Memory.lookup, ih]

/-- What a byte reads as after one write. -/
theorem lookup_store (m : Memory) (a b : Nat) (v : Byte) :
    Memory.lookup (Memory.store m a v) b = if b = a then some v else Memory.lookup m b := by
  split
  · next h => rw [h, lookup_store_same]
  · next h => exact lookup_store_ne m v h

/-- What a byte reads as after consecutive writes. -/
theorem lookup_storeBytes (m : Memory) (a b : Nat) (vs : List Byte) :
    Memory.lookup (Memory.storeBytes m a vs) b =
      if a ≤ b ∧ b < a + vs.length then vs[b - a]? else Memory.lookup m b := by
  induction vs generalizing m a with
  | nil =>
    rw [Memory.storeBytes, if_neg]
    simp only [List.length_nil]
    omega
  | cons v vs ih =>
    rw [Memory.storeBytes, ih, lookup_store, List.length_cons]
    by_cases hb : b = a
    · subst hb
      simp
    · by_cases hr : a + 1 ≤ b ∧ b < a + 1 + vs.length
      · have h2 : a ≤ b ∧ b < a + (vs.length + 1) := by omega
        rw [if_pos hr, if_pos h2, show b - a = (b - (a + 1)) + 1 by omega, List.getElem?_cons_succ]
      · have h2 : ¬(a ≤ b ∧ b < a + (vs.length + 1)) := by omega
        rw [if_neg hr, if_neg h2, if_neg hb]

/-- Every offset a write lists is the one written or was listed before. -/
theorem mem_keys_store (m : Memory) (a : Nat) (v : Byte) (x : Nat)
    (h : x ∈ (Memory.store m a v).map Prod.fst) : x = a ∨ x ∈ m.map Prod.fst := by
  induction m with
  | nil => simpa [Memory.store] using h
  | cons cell m ih =>
    obtain ⟨y, w⟩ := cell
    simp only [Memory.store] at h
    split at h
    · simpa [List.map_cons, List.mem_cons] using h
    · split at h
      · rename_i hy
        simp only [List.map_cons, List.mem_cons] at h ⊢
        exact h.imp id .inr
      · simp only [List.map_cons, List.mem_cons] at h ⊢
        rcases h with h | h
        · exact .inr (.inl h)
        · exact (ih h).imp id .inr

/-- A write keeps the offsets strictly rising. -/
theorem rising_store (m : Memory) (a : Nat) (v : Byte) (h : (m.map Prod.fst).Pairwise (· < ·)) :
    ((Memory.store m a v).map Prod.fst).Pairwise (· < ·) := by
  induction m with
  | nil => simp [Memory.store]
  | cons cell m ih =>
    obtain ⟨x, w⟩ := cell
    have hx : ∀ y ∈ m.map Prod.fst, x < y := fun y hy => List.rel_of_pairwise_cons h hy
    have hm := List.Pairwise.of_cons h
    simp only [Memory.store]
    split
    · next hlt =>
      simp only [List.map_cons, List.pairwise_cons]
      exact ⟨fun y hy => by
        rcases List.mem_cons.1 hy with rfl | hy
        · exact hlt
        · exact Nat.lt_trans hlt (hx y hy), hx, hm⟩
    · split
      · next heq =>
        subst heq
        simpa [List.map_cons] using h
      · next hlt hne =>
        simp only [List.map_cons, List.pairwise_cons]
        refine ⟨fun y hy => ?_, ih hm⟩
        rcases mem_keys_store m a v y hy with rfl | hy
        · omega
        · exact hx y hy

/-- A write of a buffer byte keeps the canonical form. -/
theorem wf_store {m : Memory} {a : Nat} (v : Byte) (h : m.wf) (ha : isBufferByte a = true) :
    (Memory.store m a v).wf := by
  refine ⟨rising_store m a v h.1, fun cell hc => ?_⟩
  rcases mem_keys_store m a v cell.1 (List.mem_map_of_mem hc) with hk | hk
  · rwa [hk]
  · obtain ⟨c, hcm, hce⟩ := List.mem_map.1 hk
    rw [← hce]
    exact h.2 c hcm

/-- Consecutive writes of buffer bytes keep the canonical form. -/
theorem wf_storeBytes {m : Memory} {a : Nat} (vs : List Byte) (h : m.wf)
    (ha : ∀ i < vs.length, isBufferByte (a + i) = true) : (Memory.storeBytes m a vs).wf := by
  induction vs generalizing m a with
  | nil => exact h
  | cons v vs ih =>
    refine ih (wf_store v h (by simpa using ha 0 (by simp))) fun i hi => ?_
    have := ha (i + 1) (by simpa using hi)
    rwa [show a + 1 + i = a + (i + 1) by omega]

@[simp] theorem wf_nil : Memory.wf [] := ⟨List.Pairwise.nil, by simp⟩

/-- A listed byte reads as what it holds, whatever the draw. -/
theorem readByte_of_lookup {s : State} {occ a : Nat} {v : Byte} (h : s.mem.lookup a = some v) :
    readByte s occ a = v := by
  simp [readByte, h]

end Sys2Proof.Laws
end

