-- ==== Sys2Proof/Laws/PerInstr.lean ====
section
/-! SUPPORT. Facts about every command as syntax, one lemma per constructor: the fields of its encoded word (30_encoding.md
R90 to R92). -/

namespace Sys2Proof.Laws

/-- A byte appended below shifts the number up by 256. -/
theorem toNat_append_byte {n : Nat} (x : BitVec n) (y : Byte) : (x ++ y).toNat = x.toNat * 256 + y.toNat := by
  rw [BitVec.toNat_append, ← Nat.shiftLeft_add_eq_or_of_lt y.isLt, Nat.shiftLeft_eq]

/-- A packed word as a number (R90). -/
theorem packWord_toNat (op a1 a2 : Nat) :
    (packWord op a1 a2).toNat = (a2 % 256 * 256 + a1 % 256) * 256 + op % 256 := by
  refine (toNat_append_byte (0#8 ++ BitVec.ofNat 8 a2 ++ BitVec.ofNat 8 a1) (BitVec.ofNat 8 op)).trans ?_
  rw [toNat_append_byte, toNat_append_byte]
  simp

/-- The fields of a packed word (R90). -/
theorem packWord_fields (op a1 a2 : Nat) :
    opField (packWord op a1 a2) = op % 256 ∧ a1Field (packWord op a1 a2) = a1 % 256 ∧
      a2Field (packWord op a1 a2) = a2 % 256 ∧ rsvdField (packWord op a1 a2) = 0 := by
  simp only [opField, a1Field, a2Field, rsvdField, BitVec.extractLsb'_toNat, packWord_toNat,
    Nat.shiftRight_eq_div_pow]
  refine ⟨?_, ?_, ?_, ?_⟩ <;> omega

/-- The encoded word of a command holds its OP, its operands where its fields hold them, and RSVD = 0. -/
def Fields.Statement (i : Instr) : Prop :=
  i.wellFormed = true →
    opField (encode i) = opcodeOf i ∧ a1Field (encode i) = (operandsOf i).1 ∧
      a2Field (encode i) = (operandsOf i).2 ∧ rsvdField (encode i) = 0

/-- Any command whose OP and operands are bytes has the fields it should. -/
theorem fields_of_bytes (i : Instr) (hop : opcodeOf i < 256) (h1 : (operandsOf i).1 < 256)
    (h2 : (operandsOf i).2 < 256) : Fields.Statement i := by
  intro _
  have h := packWord_fields (opcodeOf i) (operandsOf i).1 (operandsOf i).2
  rwa [Nat.mod_eq_of_lt hop, Nat.mod_eq_of_lt h1, Nat.mod_eq_of_lt h2] at h

theorem Fields.nop : Fields.Statement .nop := fields_of_bytes _ (by decide) (by decide) (by decide)
theorem Fields.gfAdd : Fields.Statement .gfAdd := fields_of_bytes _ (by decide) (by decide) (by decide)
theorem Fields.gfMul : Fields.Statement .gfMul := fields_of_bytes _ (by decide) (by decide) (by decide)
theorem Fields.gfLog : Fields.Statement .gfLog := fields_of_bytes _ (by decide) (by decide) (by decide)
theorem Fields.gfExp : Fields.Statement .gfExp := fields_of_bytes _ (by decide) (by decide) (by decide)
theorem Fields.gfGen (n k : Nat) : Fields.Statement (.gfGen n k) := by
  intro h
  simp only [Instr.wellFormed, fitsField, Bool.and_eq_true, decide_eq_true_eq] at h
  exact fields_of_bytes (.gfGen n k) (by simp [opcodeOf]) h.1 h.2 (by simp [Instr.wellFormed, fitsField, h])
theorem Fields.rsEcc (b : Nat) : Fields.Statement (.rsEcc b) := by
  intro h
  simp only [Instr.wellFormed, fitsField, decide_eq_true_eq] at h
  exact fields_of_bytes (.rsEcc b) (by simp [opcodeOf]) h (by decide : (0 : Nat) < 256) (by simp [Instr.wellFormed, fitsField, h])
theorem Fields.rsEccAll : Fields.Statement .rsEccAll := fields_of_bytes _ (by decide) (by decide) (by decide)
theorem Fields.rsInterleave : Fields.Statement .rsInterleave :=
  fields_of_bytes _ (by decide) (by decide) (by decide)
theorem Fields.rsSynd (b : Nat) : Fields.Statement (.rsSynd b) := by
  intro h
  simp only [Instr.wellFormed, fitsField, decide_eq_true_eq] at h
  exact fields_of_bytes (.rsSynd b) (by simp [opcodeOf]) h (by decide : (0 : Nat) < 256) (by simp [Instr.wellFormed, fitsField, h])
theorem Fields.rsEncode : Fields.Statement .rsEncode := fields_of_bytes _ (by decide) (by decide) (by decide)
theorem Fields.mxClear : Fields.Statement .mxClear := fields_of_bytes _ (by decide) (by decide) (by decide)
theorem Fields.mxTemplate : Fields.Statement .mxTemplate := fields_of_bytes _ (by decide) (by decide) (by decide)
theorem Fields.mxVerinfo : Fields.Statement .mxVerinfo := fields_of_bytes _ (by decide) (by decide) (by decide)
theorem Fields.mxPlace : Fields.Statement .mxPlace := fields_of_bytes _ (by decide) (by decide) (by decide)
theorem Fields.mxFormat : Fields.Statement .mxFormat := fields_of_bytes _ (by decide) (by decide) (by decide)
theorem Fields.mxBuild : Fields.Statement .mxBuild := fields_of_bytes _ (by decide) (by decide) (by decide)
theorem Fields.qrEncode : Fields.Statement .qrEncode := fields_of_bytes _ (by decide) (by decide) (by decide)

end Sys2Proof.Laws
end

