-- ==== Sys2Proof/Laws/Plane.lean ====
section
/-! SUPPORT. The laws of the matrix planes: reading after writing, and what a list of stamps leaves. -/

namespace Sys2Proof.Laws

open Sys2Proof.Machine

/-- A cell outside the plane holds nothing. -/
theorem cell_outside (p : Plane) {r c : Nat} (h : ¬(r < 177 ∧ c < 177)) : p.cell? r c = none := by
  simp [Plane.cell?, h]

/-- What a cell holds after one write. -/
theorem cell_put (p : Plane) (r c r' c' : Nat) (x : Bool) :
    (Plane.put p r c x).cell? r' c' =
      if r' = r ∧ c' = c ∧ r < 177 ∧ c < 177 then some x else p.cell? r' c' := by
  unfold Plane.put
  split
  · next h =>
    unfold Plane.cell?
    split
    · next h' =>
      by_cases hr : r = r'
      · subst hr
        by_cases hc : c = c'
        · subst hc
          simp [h]
        · simp [hc, Ne.symm hc]
      · simp [hr, Ne.symm hr]
    · next h' =>
      have : ¬(r' = r ∧ c' = c ∧ r < 177 ∧ c < 177) := by
        rintro ⟨rfl, rfl, h1, h2⟩
        exact h' ⟨h1, h2⟩
      simp [this]
  · next h =>
    have : ¬(r' = r ∧ c' = c ∧ r < 177 ∧ c < 177) := fun hh => h ⟨hh.2.2.1, hh.2.2.2⟩
    simp [this]

/-- A write leaves every other cell alone. -/
theorem cell_put_ne (p : Plane) {r c r' c' : Nat} (x : Bool) (h : ¬(r' = r ∧ c' = c)) :
    (Plane.put p r c x).cell? r' c' = p.cell? r' c' := by
  rw [cell_put, if_neg]
  rintro ⟨h1, h2, -⟩
  exact h ⟨h1, h2⟩

/-- A filled plane holds the same everywhere. -/
theorem cell_filled (x : Bool) {r c : Nat} (hr : r < 177) (hc : c < 177) :
    (Plane.filled x).cell? r c = some x := by
  simp [Plane.cell?, Plane.filled, hr, hc]

/-- A plane nothing has written holds nothing. -/
@[simp] theorem cell_unwritten (r c : Nat) : Plane.unwritten.cell? r c = none := by
  simp [Plane.cell?, Plane.unwritten]

/-- Two planes with the same cells are the same plane. -/
theorem plane_ext {p q : Plane} (h : ∀ r c, p.cell? r c = q.cell? r c) : p = q := by
  apply Vector.ext
  intro r hr
  apply Vector.ext
  intro c hc
  have := h r c
  simpa [Plane.cell?, hr, hc] using this

/-- Writing the cells of a list in turn leaves a cell that the list does not name alone. -/
theorem cell_foldl_put_notMem (f : Stamp → Bool) (l : List Stamp) (p : Plane) {r c : Nat}
    (h : ∀ st ∈ l, ¬(st.row = r ∧ st.col = c)) :
    (l.foldl (fun d st => Plane.put d st.row st.col (f st)) p).cell? r c = p.cell? r c := by
  induction l generalizing p with
  | nil => rfl
  | cons st l ih =>
    rw [List.foldl_cons, ih _ fun st' h' => h st' (List.mem_cons_of_mem _ h')]
    refine cell_put_ne p _ fun hh => h st List.mem_cons_self ⟨hh.1.symm, hh.2.symm⟩

/-- Writing the cells of a list in turn leaves, in a cell that the list names with one value only, that value. -/
theorem cell_foldl_put_mem (f : Stamp → Bool) (l : List Stamp) (p : Plane) {r c : Nat} {x : Bool}
    (hr : r < 177) (hc : c < 177) (hmem : ∃ st ∈ l, st.row = r ∧ st.col = c)
    (hval : ∀ st ∈ l, st.row = r → st.col = c → f st = x) :
    (l.foldl (fun d st => Plane.put d st.row st.col (f st)) p).cell? r c = some x := by
  induction l generalizing p with
  | nil => simp at hmem
  | cons st l ih =>
    rw [List.foldl_cons]
    by_cases hl : ∃ st' ∈ l, st'.row = r ∧ st'.col = c
    · exact ih _ hl fun st' h' => hval st' (List.mem_cons_of_mem _ h')
    · rw [cell_foldl_put_notMem f l _ fun st' h' hh => hl ⟨st', h', hh⟩]
      obtain ⟨st', hm, hrow, hcol⟩ := hmem
      rcases List.mem_cons.1 hm with rfl | hm
      · rw [cell_put, if_pos ⟨hrow.symm, hcol.symm, by omega, by omega⟩, hval _ List.mem_cons_self hrow hcol]
      · exact absurd ⟨st', hm, hrow, hcol⟩ hl

/-- Stamps leave both planes of a cell they do not name alone. -/
theorem stamp_notMem (p : Planes) (l : List Stamp) {r c : Nat} (h : ∀ st ∈ l, ¬(st.row = r ∧ st.col = c)) :
    (p.stamp l).dark.cell? r c = p.dark.cell? r c ∧ (p.stamp l).rsv.cell? r c = p.rsv.cell? r c :=
  ⟨cell_foldl_put_notMem Stamp.dark l p.dark h, cell_foldl_put_notMem (fun _ => true) l p.rsv h⟩

/-- A cell that stamps name with one value only is reserved and holds that value. -/
theorem stamp_mem (p : Planes) (l : List Stamp) {r c : Nat} {x : Bool} (hr : r < 177) (hc : c < 177)
    (hmem : ∃ st ∈ l, st.row = r ∧ st.col = c) (hval : ∀ st ∈ l, st.row = r → st.col = c → st.dark = x) :
    (p.stamp l).dark.cell? r c = some x ∧ (p.stamp l).rsv.cell? r c = some true :=
  ⟨cell_foldl_put_mem Stamp.dark l p.dark hr hc hmem hval,
   cell_foldl_put_mem (fun _ => true) l p.rsv hr hc hmem fun _ _ _ _ => rfl⟩

end Sys2Proof.Laws
end

