-- ==== Sys2Proof/Tests/Slice0.lean ====
section
/-! SUPPORT. Tests of the model. Expected values are the vectors of spec/95_test_vectors.md (named in each docstring) or
the examples of the rules. Then one witness for each obligation that has hypotheses. -/

namespace Sys2Proof.Tests

open Sys2Proof Sys2Proof.Machine Sys2Proof.Claims Sys2Proof.Safety

set_option Elab.async false

/-! ### States for the tests -/

/-- After reset, with CFG set. -/
def configured (v : Nat) (l : Level) (m : Nat) : State :=
  { State.reset with cfg := ⟨BitVec.ofNat 6 v, l, BitVec.ofNat 3 m⟩ }

/-- After reset, with OPA and OPB set. -/
def operands (a b : Byte) : State := { State.reset with opa := a, opb := b }

/-- With bytes at a window offset. -/
def holding (a : Nat) (bytes : List Byte) (s : State) : State := { s with mem := s.mem.storeBytes a bytes }

/-- With the command `w` in progress, `k` host accesses before its end, and the host's next actions. -/
def busyWith (w : Word) (k : Nat) (script : List HostOp) (s : State) : State :=
  { s with running := some ⟨w, k⟩, script := script }

/-- With the host's next actions. -/
def hostDoes (script : List HostOp) (s : State) : State := { s with script := script }

/-- What a view of the state after a command or a step is; none where it stops. -/
def after {α : Type} (r : Result) (view : State → α) : Option α :=
  match r with
  | .next t => some (view t)
  | .fault _ => none
  | .refused _ => none

/-- `n` bytes of memory from an offset. -/
def bytesAt (a n : Nat) (s : State) : List (Option Byte) := (List.range n).map fun i => s.mem.lookup (a + i)

/-- STATUS and ERRCODE as words. -/
def outcome (s : State) : Word × Word := (statusWord s, s.errcode.code)

/-- DATA of V-RS-1. -/
def testData : List Byte :=
  [0x40, 0x47, 0x46, 0x57, 0x37, 0x40, 0xEC, 0x11, 0xEC, 0x11, 0xEC, 0x11, 0xEC, 0x11, 0xEC, 0x11]

/-- ECC of V-RS-1. -/
def testEcc : List Byte := [0x7E, 0x3A, 0xC8, 0xD9, 0x7D, 0xDD, 0xB4, 0x54, 0x01, 0x88]

/-- Version 1-M, mask 4, with the DATA of V-RS-1. -/
def testState : State := holding dataBase testData (configured 1 .M 4)

/-- The same with the SEQ of V-RS-1. -/
def testSeq : State := holding seqBase (testData ++ testEcc) (configured 1 .M 4)

/-- The planes all zero. -/
def cleared (s : State) : State := s.setPlanes ⟨Plane.filled false, Plane.filled false⟩

/-! ### WellFormed -/

/-- R97, V-ENC-3: `RS_ECC 256` and `GF_GEN 7, 256` do not assemble; each check refuses an ill-formed term. -/
theorem test_wellFormed_refuses :
    (Instr.gfGen 256 0).wellFormed = false ∧ (Instr.gfGen 7 256).wellFormed = false ∧
      (Instr.rsEcc 256).wellFormed = false ∧ (Instr.rsSynd 256).wellFormed = false := by decide

/-- V-ENC-3: 64 and 255 fit. -/
theorem test_wellFormed_accepts :
    (Instr.gfGen 64 0).wellFormed = true ∧ (Instr.rsSynd 255).wellFormed = true := by decide

/-! ### Decode: the words of V-ENC-1 and V-ENC-2 -/

theorem test_decode_gf :
    decode 0x00000000 = .ok .nop ∧ decode 0x00000001 = .ok .gfAdd ∧ decode 0x00000002 = .ok .gfMul ∧
    decode 0x00000003 = .ok .gfLog ∧ decode 0x00000004 = .ok .gfExp ∧ decode 0x00010705 = .ok (.gfGen 7 1) ∧
    decode 0x001E1E05 = .ok (.gfGen 30 30) := by
  refine ⟨?_, ?_, ?_, ?_, ?_, ?_, ?_⟩ <;> rfl

theorem test_decode_rs :
    decode 0x00000010 = .ok (.rsEcc 0) ∧ decode 0x00000310 = .ok (.rsEcc 3) ∧
    decode 0x00005010 = .ok (.rsEcc 80) ∧ decode 0x00000011 = .ok .rsEccAll ∧
    decode 0x00000012 = .ok .rsInterleave ∧ decode 0x00000013 = .ok (.rsSynd 0) ∧
    decode 0x0000FF13 = .ok (.rsSynd 255) ∧ decode 0x00000014 = .ok .rsEncode := by
  refine ⟨?_, ?_, ?_, ?_, ?_, ?_, ?_, ?_⟩ <;> rfl

theorem test_decode_mx :
    decode 0x00000020 = .ok .mxClear ∧ decode 0x00000021 = .ok .mxTemplate ∧ decode 0x00000022 = .ok .mxVerinfo ∧
    decode 0x00000023 = .ok .mxPlace ∧ decode 0x00000024 = .ok .mxFormat ∧ decode 0x00000025 = .ok .mxBuild ∧
    decode 0x00000030 = .ok .qrEncode := by
  refine ⟨?_, ?_, ?_, ?_, ?_, ?_, ?_⟩ <;> rfl

theorem test_decode_unassigned :
    ([0x06, 0x0F, 0x15, 0x1F, 0x26, 0x2F, 0x31, 0xFF].map fun w => (decode w).toOption) = List.replicate 8 none := by
  decide +kernel

theorem test_decode_mustBeZero :
    ([0x00000100, 0x00000102, 0x00010010, 0x01000010, 0x80000030, 0x01000705].map fun w => (decode w).toOption) =
      List.replicate 6 none := by decide +kernel

/-- A row's word through the byte decoder (opcode_table.json's numbering). -/
theorem test_decodeTableWord :
    decodeTableWord 32 0x00010705 = some (.gfGen 7 1) ∧ decodeTableWord 32 0x00000106 = none := by
  refine ⟨?_, ?_⟩ <;> rfl

/-- The bytes of a word lie little-endian (R63). -/
theorem test_decodeBytes :
    (decodeBytes [0x10, 0x03, 0x00, 0x00, 0xFF]).toOption = some (.rsEcc 3, [0xFF]) ∧
    (decodeBytes [0x10, 0x03, 0x00]).toOption = none := by
  refine ⟨?_, ?_⟩ <;> rfl

/-! ### Reset and registers -/

/-- V-RST-1, through the bus. -/
theorem test_reset_registers :
    [0x000, 0x004, 0x008, 0x00C, 0x014, 0x018, 0x01C, 0x020].map (hostRead State.reset .word) =
      [0x51520001, 0, 0, 0, 0x00040001, 0, 0, 0] := by decide

/-- V-GEO-1: rows 2-M, 14-L and 40-H, and an invalid version. -/
theorem test_geometry_registers :
    ([configured 2 .M 4, configured 14 .L 4, configured 40 .H 4, configured 41 .Q 4].map fun s =>
      [0x024, 0x028, 0x02C, 0x030].map (hostRead s .word)) =
      [[0x07100119, 28, 44, 0x1C], [0x031E0449, 461, 581, 0x173], [0x001E51B1, 1276, 3706, 0x3D0F], [0, 0, 0, 0]] := by
  decide +kernel

/-- V-MEM-10: reserved bits of CTRL read 0. -/
theorem test_ctrl_write :
    after (step (hostDoes [.write .word 0x004 0xFFFFFFFD] State.reset)) (hostRead · .word 0x004) = some 1 := by
  decide +kernel

/-- V-MEM-11: reserved bits of CFG read 0. -/
theorem test_cfg_write :
    after (step (hostDoes [.write .word 0x014 0xFFFFFFFF] State.reset)) (hostRead · .word 0x014) =
      some 0x0007033F := by decide +kernel

/-- V-MEM-12: W1C bits are cleared, SYNZ stays. -/
theorem test_status_write :
    after (step (hostDoes [.write .word 0x008 0xFFFFFFFF] { State.reset with status := ⟨true, true, true, true⟩ }))
      (hostRead · .word 0x008) = some 8 := by decide +kernel

/-- V-RST-2: a soft reset ignores IE. -/
theorem test_soft_reset :
    after (step (hostDoes [.write .word 0x004 3] { operands 0x53 0xCA with ie := true }))
      (fun s => (s.ie, s.opa, hostRead s .word 0x014)) = some (false, 0, 0x00040001) := by decide +kernel

/-- V-RST-3: a soft reset while busy abandons the command. -/
theorem test_soft_reset_busy :
    after (step (busyWith 0x30 1 [.write .word 0x004 2] testState)) (fun s => (s.running, outcome s)) =
      some (none, 0, 0) := by decide +kernel

/-! ### Buffers and the bus -/

/-- V-MEM-1, V-MEM-2: little-endian words and halfwords. -/
theorem test_buffer_bytes :
    after (step (hostDoes [.write .half 0x1002 0xBBAA] (holding 0x1000 [0x11, 0x22, 0x33, 0x44] State.reset)))
      (fun s => (hostRead s .word 0x1000, hostRead s .byte 0x1001)) = some (0xBBAA2211, 0x22) := by decide +kernel

/-- V-MEM-3, V-MEM-4: misaligned accesses are not performed. -/
theorem test_misaligned :
    after (step (hostDoes [.write .word 0x1001 0x12345678] (holding 0x1000 [1, 2, 3, 4, 5, 6, 7, 8] State.reset)))
      (fun s => (hostRead s .word 0x1000, hostRead s .word 0x1002)) = some (0x04030201, 0) := by decide +kernel

/-- V-MEM-5: a byte access to a register is not performed. -/
theorem test_register_byte :
    after (step (hostDoes [.write .byte 0x014 7] State.reset))
      (fun s => (hostRead s .byte 0x014, hostRead s .word 0x014)) = some (0, 0x00040001) := by decide +kernel

/-- V-MEM-6, V-MEM-9: unmapped offsets and CMD read 0. -/
theorem test_unmapped :
    [0x034, 0xFFC, 0x4020, 0xFFFC, 0x010].map (hostRead State.reset .word) = [0, 0, 0, 0, 0] := by decide +kernel

/-- V-MEM-8: outside the planes the window reads 0; MX cells show RSV and DARK (R66). -/
theorem test_matrix_window :
    let s := { State.reset with planes := (cleared State.reset).planes.stamp [⟨13, 8, true⟩] }
    (hostRead s .byte (BitVec.ofNat 17 (0x10000 + 256 * 177)), hostRead s .byte 0x100C8,
      hostRead s .byte 0x10D08, hostRead s .half 0x10D08) = (0, 0, 3, 3) := by decide +kernel

/-- R254, P5: a write while BUSY = 1 is dropped and sets OVR; the command goes on. -/
theorem test_busy_write :
    after (step (busyWith 0x30 2 [.write .word 0x014 0x00040307] testState))
      (fun s => (hostRead s .word 0x014, s.status.ovr, s.running)) =
      some (0x00040101, true, some ⟨0x30, 1⟩) := by decide +kernel

/-- R25: an idle engine accepts a CMD write. -/
theorem test_cmd_accepted :
    after (step (hostDoes [.write .word 0x010 2] State.reset)) (fun s => s.running.map Running.word) = some (some 2) := by
  decide +kernel

/-- withFetchWord: the very next step runs GF_MUL, V-GF-2. -/
theorem test_withFetchWord :
    after (step ((operands 0x53 0xCA).withFetchWord 32 2)) (fun s => (s.result, outcome s)) =
      some (0x8F, 2, 0) := by decide +kernel

/-! ### GF commands -/

/-- V-GF-1. -/
theorem test_gfAdd : after (exec .gfAdd (operands 0x53 0xCA)) (·.result) = some 0x99 := by decide +kernel

/-- V-GF-2, V-GF-3. -/
theorem test_gfMul :
    ([(0x02, 0x80), (0xFF, 0xFF), (0x53, 0x8C), (0x00, 0x53), (0x53, 0x00)].map fun p =>
      after (exec .gfMul (operands p.1 p.2)) (·.result)) =
      [some 0x1D, some 0xE2, some 0x01, some 0x00, some 0x00] := by decide +kernel

/-- V-GF-5. -/
theorem test_gfLog :
    ([0x01, 0x03, 0x8E, 0xCA].map fun a => after (exec .gfLog (operands a 0)) (·.result)) =
      [some 0, some 25, some 254, some 73] := by decide +kernel

/-- V-ERR-8: log of zero. -/
theorem test_gfLog_zero :
    after (exec .gfLog { operands 0 0 with result := 0x8F }) (fun s => (s.result, outcome s)) =
      some (0x8F, 4, 3) := by decide +kernel

/-- V-GF-6. -/
theorem test_gfExp :
    ([8, 100, 254, 255].map fun a => after (exec .gfExp (operands a 0)) (·.result)) =
      [some 0x1D, some 0x11, some 0x8E, some 0x01] := by decide +kernel

/-- V-GF-7. -/
theorem test_gfGen :
    ([(2, 1), (7, 7), (8, 4), (30, 30)].map fun p => after (exec (.gfGen p.1 p.2) State.reset) (·.result)) =
      [some 3, some 117, some 54, some 150] := by decide +kernel

/-- V-ERR-12. -/
theorem test_gfGen_errors :
    ([(31, 0), (0, 0), (7, 8), (30, 31)].map fun p => after (exec (.gfGen p.1 p.2) State.reset) outcome) =
      [some (4, 5), some (4, 5), some (4, 5), some (4, 5)] := by decide +kernel

/-- V-ERR-7, V-ERR-14: NOP with an invalid version, ERR and ERRCODE of an earlier command kept. -/
theorem test_nop :
    after (exec .nop { configured 0 .L 4 with errcode := .logZero, status := ⟨false, true, false, false⟩ }) outcome =
      some (6, 3) := by decide +kernel

/-! ### Errors -/

/-- V-ERR-1, V-ERR-2, V-ERR-3, V-ERR-4 through a step. -/
theorem test_error_order :
    ([(configured 1 .L 4, 0x06), (configured 0 .L 4, 0x01000010), (configured 0 .L 4, 0xC810),
        (configured 1 .M 4, 0xC810)].map fun p => after (step (busyWith p.2 0 [] p.1)) outcome) =
      [some (4, 1), some (4, 1), some (4, 2), some (4, 4)] := by decide +kernel

/-- V-ERR-5: every command that needs a version. -/
theorem test_badConfig :
    ([0x10, 0x11, 0x12, 0x13, 0x14, 0x21, 0x22, 0x23, 0x24, 0x25, 0x30].map fun w =>
      after (step (busyWith w 0 [] (configured 41 .L 4))) outcome) = List.replicate 11 (some (4, 2)) := by decide +kernel

/-- V-ERR-13: DONE of an earlier command stays. -/
theorem test_error_keeps_done :
    after (step (busyWith 0x06 0 [] { State.reset with status := ⟨true, false, false, false⟩ })) outcome =
      some (6, 1) := by decide +kernel

/-- V-ERR-15. -/
theorem test_irq :
    irq { State.reset with ie := true, status := ⟨false, false, true, true⟩ } = false ∧
      irq { State.reset with ie := true, status := ⟨false, true, false, false⟩ } = true := by decide +kernel

/-! ### Reed-Solomon -/

/-- V-RS-1. -/
theorem test_rsEcc :
    after (exec (.rsEcc 0) testState) (bytesAt eccBase 11) = some (testEcc.map some ++ [none]) := by decide +kernel

/-- V-RS-4 (c), a block shorter than the degree. -/
theorem test_short_block : rsRemainder [1, 0] 7 = [139, 245, 87, 192, 26, 34, 208] := by decide +kernel

/-- V-RS-1: RS_ENCODE stores the same codewords in ECC and in SEQ. -/
theorem test_rsEncode :
    after (exec .rsEncode testState) (fun s => (bytesAt eccBase 10 s, bytesAt seqBase 27 s)) =
      some (testEcc.map some, (testData ++ testEcc).map some ++ [none]) := by decide +kernel

/-- R139's example: 5-Q, DATA[i] = i and ECC[i] = 100 + i. -/
theorem test_rsInterleave :
    after (exec .rsInterleave (holding dataBase ((List.range 62).map (BitVec.ofNat 8))
        (holding eccBase ((List.range 72).map fun i => BitVec.ofNat 8 (100 + i)) (configured 5 .Q 4))))
      (fun s => (bytesAt seqBase 4 s, bytesAt (seqBase + 60) 6 s)) =
      some ([some 0, some 15, some 30, some 46],
        [some 45, some 61, some 100, some 118, some 136, some 154]) := by decide +kernel

/-- V-RS-3 for block 0 of 1-L, by RS_ECC_ALL. -/
theorem test_rsEccAll :
    after (exec .rsEccAll (holding dataBase (List.replicate 18 0 ++ [1]) (configured 1 .L 4))) (bytesAt eccBase 7) =
      some ([0x7F, 0x7A, 0x9A, 0xA4, 0x0B, 0x44, 0x75].map some) := by decide +kernel

/-- V-RS-8 (a). -/
theorem test_rsSynd_zero :
    after (exec (.rsSynd 0) (holding eccBase testEcc testState)) (fun s => (bytesAt syndBase 32 s, statusWord s)) =
      some (List.replicate 32 (some 0), 0x0A) := by decide +kernel

/-- V-RS-8 (b). -/
theorem test_rsSynd_error :
    after (exec (.rsSynd 0) (holding dataBase [0x41] (holding eccBase testEcc testState)))
      (fun s => (bytesAt syndBase 12 s, statusWord s)) =
      some (([0x01, 0x03, 0x05, 0x0F, 0x11, 0x33, 0x55, 0xFF, 0x1C, 0x24, 0x00, 0x00] : List Byte).map some, 2) := by
  decide +kernel

/-! ### The matrix -/

/-- R174: the masks along row 2 (V-MX-6's first columns are of the same predicates). -/
theorem test_masks :
    ((List.range 8).map fun m => (List.range 6).map fun c => maskPred m 2 c) =
      [[0, 1, 0, 1, 0, 1], [0, 0, 0, 0, 0, 0], [0, 1, 2, 0, 1, 2], [2, 0, 1, 2, 0, 1], [1, 1, 1, 0, 0, 0],
        [0, 2, 1, 0, 2, 1], [0, 0, 1, 0, 0, 1], [0, 1, 1, 1, 0, 0]] := by decide +kernel

/-- R177: the first cells visited in version 1; R173: the scan never enters column 6. -/
theorem test_scanOrder :
    (scanOrder 21).take 5 = [(20, 20), (20, 19), (19, 20), (19, 19), (18, 20)] ∧ (scanOrder 21).length = 420 := by
  decide +kernel

/-- R168: MX_CLEAR, with an invalid version (V-ERR-6). -/
theorem test_mxClear :
    after (exec .mxClear (configured 63 .L 4)) (fun s =>
      (s.planes.dark.cell? 176 176, s.planes.rsv.cell? 0 0, s.status.done)) =
      some (some false, some false, true) := by decide +kernel

/-- V-MX-2: row 6 of version 1 (the row R169's example means; log 26). -/
theorem test_mxTemplate :
    after (exec .mxTemplate (configured 1 .M 4)) (fun s =>
      (List.range 21).map fun c => (s.planes.dark.cell? 6 c).getD false) =
      some ([1, 1, 1, 1, 1, 1, 1, 0, 1, 0, 1, 0, 1, 0, 1, 1, 1, 1, 1, 1, 1].map (· == 1)) := by decide +kernel

/-- R172's example, version 7. -/
theorem test_mxVerinfo :
    after (exec .mxVerinfo (configured 7 .L 4)) (fun s =>
      ((List.range 6).map fun c => s.planes.dark.cell? 34 c, (List.range 3).map fun c => s.planes.rsv.cell? 5 (34 + c))) =
      some ([some false, some false, some false, some false, some true, some false],
        [some true, some true, some true]) := by decide +kernel

/-- R177's example: SEQ[0] = 0x40, mask 4; V-MX-13: with no cell reserved, LEAVE stops after 208 cells. -/
theorem test_place_leave :
    (geometryOf 1 .M).map (fun g =>
      let d := (placeBodyWith .leave g (cleared testSeq)).planes.dark
      (d.cell? 20 20, d.cell? 20 19, d.cell? 3 4)) = some (some true, some false, some false) := by decide +kernel

/-- V-MX-13: ZERO_MASKED gives the other cells inv_4: pred_4(0, 0) = 0 and pred_4(0, 3) = 1 (R174). -/
theorem test_place_zeroMasked :
    (geometryOf 1 .M).map (fun g =>
      let d := (placeBodyWith .zeroMasked g (cleared testSeq)).planes.dark
      (d.cell? 0 0, d.cell? 0 3, d.cell? 0 6)) = some (some true, some false, some false) := by decide +kernel

/-- R180's example: row 8 reads 100010 at columns 0..5 and 11111001 at columns 13..20; the dark module. -/
theorem test_format_write :
    (geometryOf 1 .M).map (fun g =>
      let d := (formatBodyWith .write g (cleared (configured 1 .M 4))).planes.dark
      ((List.range 6).map fun c => d.cell? 8 c, (List.range 8).map fun c => d.cell? 8 (13 + c), d.cell? 13 8)) =
      some ([1, 0, 0, 0, 1, 0].map fun b => some (b == 1), [1, 1, 1, 1, 1, 0, 0, 1].map fun b => some (b == 1),
        some true) := by decide +kernel

/-- V-MX-12: with OMIT, copy 2 keeps its value and the dark module is still dark. -/
theorem test_format_omit :
    (geometryOf 1 .M).map (fun g =>
      let d := (formatBodyWith .omit g (cleared (configured 1 .M 4))).planes.dark
      (d.cell? 8 13, d.cell? 14 8, d.cell? 13 8)) = some (some false, some false, some true) := by decide +kernel

/-- V-MX-10, V-RS-1: QR_ENCODE leaves SEQ, DONE and no error. -/
theorem test_qrEncode :
    after (exec .qrEncode testState) (fun s => (bytesAt (seqBase + 16) 10 s, outcome s)) =
      some (testEcc.map some, 2, 0) := by decide +kernel

/-! ### The host's stages and the script notation -/

/-- V-SEL-1, V-SEL-2, V-SEL-3, V-SEL-5. -/
theorem test_selectVersion :
    [selectVersion 4 .M, selectVersion 60 .Q, selectVersion 60 .H, selectVersion 231 .L, selectVersion 1274 .H] =
      [some 1, some 5, some 7, some 10, none] := by decide +kernel

/-- V-BS-1. -/
theorem test_bitStream : (bitStream [0x74, 0x65, 0x73, 0x74] 1 .M).toOption = some testData := by decide +kernel

/-- V-BS-3, R207: the order of the checks of `encode`. -/
theorem test_encode_errors :
    ([⟨[], 1, none, false⟩, ⟨[1], 4, none, false⟩, ⟨[1], 1, some 41, true⟩, ⟨[1], 1, none, false⟩,
        ⟨List.replicate 20 1, 1, some 1, true⟩] : List EncodeRequest).map (fun r =>
          match r.prepare with
          | .ok _ => none
          | .error e => some e) =
      [some .invalidArgument, some .invalidArgument, some .invalidArgument, some .unsupportedMode,
        some .capacityExceeded] := by decide +kernel

/-- The request of V-MX-10: "test" at level M, version automatic. -/
def testRequest : EncodeRequest := ⟨[0x74, 0x65, 0x73, 0x74], 1, none, true⟩

/-- R206, R207: what encode answers once its script has ended: the dark bits of the 21 by 21 symbol (here all Light), or,
with ERR set, the report of BAD_CONFIG and of another code. -/
theorem test_encodeReadback :
    (encodeReadback 1 (cleared State.reset)).toOption = some (List.replicate 21 (List.replicate 21 false)) ∧
    ([.badConfig, .badArg].map fun code =>
      match encodeReadback 1 { State.reset with errcode := code, status := ⟨false, true, false, false⟩ } with
      | .ok _ => none
      | .error e => some e) = [some (.host .invalidArgument), some (.engine 5)] := by decide +kernel

/-- V-ENC-3: expansions, and what the assembler refuses. -/
theorem test_expand :
    (Line.command (.rsSynd 2)).expand = some [.write .word 0x010 0x00000213, .wait] ∧
    Line.ack.expand = some [.write .word 0x008 0x16] ∧ (Line.cfg 64 .L 4).expand = none ∧
    (Line.command (.rsEcc 256)).expand = none := by decide +kernel

/-- R97: nothing is silently truncated: a value wider than its field or access, a target past its buffer; a LOAD
with no byte (log 32). -/
theorem test_expand_refuses :
    ([.lda 0x100000000, .load .SEQ 4095 [1, 2], .load .DATA 0 [], .load .DATA 4096 [], .wrb (.buf .DATA 0) 0x1FF, .wr (.buf .DATA 4096) 0, .rdb (.mx 0 256),
        .rd (.raw 0x20000)].map Line.expand) = List.replicate 8 none ∧
    (Line.wrh (.buf .DATA 4094) 0xFFFF).expand = some [.write .half 0x1FFE 0xFFFF] ∧
    (Line.load .SEQ 4094 [1, 2]).expand = some [.write .byte 0x3FFE 1, .write .byte 0x3FFF 2] := by decide +kernel

/-! ### Witnesses: for each obligation with hypotheses, a state and operands that meet them, clause by clause -/

/-- The geometry of 1-M. -/
def g1M : Geometry := ⟨1, 21, 16, 1, 10, 0⟩

/-- The geometry of 5-Q, with short and long blocks. -/
def g5Q : Geometry := ⟨5, 37, 62, 4, 18, 7⟩

/-- A state in 5-Q whose DATA and SEQ bytes are all written. -/
def filled5Q : State := holding dataBase (List.replicate 62 0x5A) (holding seqBase (List.replicate 134 0xA5) (configured 5 .Q 4))

theorem geometry_1M : geometry (configured 1 .M 4).cfg = some g1M := by decide +kernel

theorem geometry_5Q : geometry (configured 5 .Q 4).cfg = some g5Q := by decide +kernel

theorem witness_DecodeEncodeRoundTrip :
    (Instr.gfGen 255 255).wellFormed = true ∧ (Instr.rsEcc 0).wellFormed = true ∧
      (Instr.rsSynd 255).wellFormed = true ∧ Instr.qrEncode.wellFormed = true := by decide

theorem witness_DecodedWordIsItsEncoding : decode 0x00FFFF05 = .ok (.gfGen 255 255) ∧ decode 0x0000FF13 = .ok (.rsSynd 255) := by
  refine ⟨?_, ?_⟩ <;> rfl

/-- The two ways a command is about to end; the words 0x06 and 0x00010310 are illegal. -/
theorem witness_IllegalWordsRaiseIllegalCmd :
    (busyWith 0x06 0 [.wait] State.reset).running = some ⟨0x06, 0⟩ ∧
    (busyWith 0x00010310 3 [] State.reset).running = some ⟨0x00010310, 3⟩ ∧
    (busyWith 0x00010310 3 [] State.reset).script = [] ∧ Illegal 0x06 ∧ Illegal 0x00010310 := by
  refine ⟨rfl, rfl, rfl, ?_, ?_⟩ <;> simp [Illegal, commandPatterns]

theorem witness_StepRunsTheDecodedCommand :
    (busyWith 2 0 [.wait] State.reset).running = some ⟨2, 0⟩ ∧
    (busyWith 2 5 [] State.reset).running = some ⟨2, 5⟩ ∧ (busyWith 2 5 [] State.reset).script = [] ∧
    decode 2 = .ok .gfMul := ⟨rfl, rfl, rfl, rfl⟩

theorem witness_CmdWriteAcceptedOrDropped :
    (hostDoes [.write .word 0x010 2] State.reset).running = none ∧
    (hostDoes [.write .word 0x010 2] State.reset).script = [.write .word 0x010 2] ∧
    (busyWith 0x30 1 [.write .word 0x010 2] State.reset).running = some ⟨0x30, 1⟩ ∧
    (busyWith 0x30 1 [.write .word 0x010 2] State.reset).script = [.write .word 0x010 2] := ⟨rfl, rfl, rfl, rfl⟩

theorem witness_CommandEndsWithinItsLatency :
    (busyWith 0x30 3 [.wait] State.reset).running = some ⟨0x30, 3⟩ := rfl

/-- A soft reset while busy, and a write that is dropped (a CTRL write with bit 1 clear is no reset either). -/
theorem witness_BusyAccessesLeaveCommandInputsAlone :
    (∃ s t, s.running = some ⟨0x30, 1⟩ ∧ s.script = [.write .word 0x004 3] ∧ step s = .next t ∧
      IsReset (.write .word 0x004 3)) ∧
    (∃ s t, s.running = some ⟨0x30, 1⟩ ∧ s.script = [.write .word 0x014 0] ∧ step s = .next t ∧
      ¬IsReset (.write .word 0x014 0) ∧ ¬IsReset (.write .word 0x004 1)) := by
  refine ⟨⟨busyWith 0x30 1 [.write .word 0x004 3] State.reset, _, rfl, rfl, rfl, .inr ⟨3, by decide, rfl⟩⟩,
    busyWith 0x30 1 [.write .word 0x014 0] State.reset, _, rfl, rfl, rfl, ?_, ?_⟩
  · rintro (h | ⟨v, _, h⟩) <;> simp at h
  · rintro (h | ⟨v, hv, h⟩) <;> simp at h
    subst h
    simp at hv

theorem witness_StepKeepsTheInvariant : ∃ s t, Inv s ∧ s.mem ≠ [] ∧ step s = .next t := by
  refine ⟨busyWith 2 0 [] (holding dataBase [1, 2] State.reset), _, ⟨by decide +kernel, by decide, ?_⟩, by decide, rfl⟩
  intro r c h
  change (Plane.unwritten.cell? r c).isSome = true at h
  simp [Laws.cell_unwritten] at h

/-- A hard reset while idle; a soft reset while busy with its latency not passed. -/
theorem witness_EitherResetRestoresResetState :
    HostIsNext (hostDoes [.hardReset] testState) ∧ HostIsNext (busyWith 0x30 1 [.write .word 0x004 3] testState) ∧
    IsReset .hardReset ∧ IsReset (.write .word 0x004 3) :=
  ⟨.inl rfl, .inr ⟨⟨0x30, 1⟩, rfl, by decide⟩, .inl rfl, .inr ⟨3, by decide, rfl⟩⟩

theorem witness_StatusWriteClearsNamedBits :
    HostIsNext (hostDoes [.write .word 0x008 0x16] State.reset) ∧
    HostIsNext (busyWith 0x30 1 [.write .word 0x008 0x16] State.reset) ∧
    (busyWith 0x30 1 [.write .word 0x008 0x16] State.reset).script = [.write .word 0x008 0x16] :=
  ⟨.inl rfl, .inr ⟨⟨0x30, 1⟩, rfl, by decide⟩, rfl⟩

theorem witness_ConfigReadsBackItsFields :
    (hostDoes [.write .word 0x014 0xFFFFFFFF] State.reset).running = none ∧
    (hostDoes [.write .word 0x014 0xFFFFFFFF] State.reset).script = [.write .word 0x014 0xFFFFFFFF] := ⟨rfl, rfl⟩

theorem witness_OperandAndControlWrites :
    State.reset.running = none ∧
    (hostDoes [.write .word 0x018 0xFFFFFFFF] State.reset).script = [.write .word 0x018 0xFFFFFFFF] ∧
    (hostDoes [.write .word 0x01C 0] State.reset).script = [.write .word 0x01C 0] ∧
    (hostDoes [.write .word 0x020 1] State.reset).script = [.write .word 0x020 1] ∧
    HostIsNext (hostDoes [.write .word 0x004 0xFFFFFFFD] State.reset) ∧
    HostIsNext (busyWith 0x30 1 [.write .word 0x004 0xFFFFFFFD] State.reset) ∧
    (hostDoes [.write .word 0x004 0xFFFFFFFD] State.reset).script = [.write .word 0x004 0xFFFFFFFD] ∧
    (0xFFFFFFFD : Word).getLsbD 1 = false := by
  refine ⟨rfl, rfl, rfl, rfl, .inl rfl, .inr ⟨⟨0x30, 1⟩, rfl, by decide⟩, rfl, by decide⟩

/-- Versions 1 and 40 are valid; 0 and 41 are not. -/
theorem witness_GeometryRegistersFollowConfig :
    (configured 1 .L 4).running = none ∧ geometry (configured 1 .L 4).cfg = some ⟨1, 21, 19, 1, 7, 0⟩ ∧
    geometry (configured 40 .H 4).cfg = some ⟨40, 177, 1276, 81, 30, 0⟩ ∧
    (configured 0 .L 4).cfg.version.toNat = 0 ∧ (configured 41 .L 4).cfg.version.toNat > 40 := by
  refine ⟨rfl, ?_, ?_, ?_, ?_⟩ <;> decide +kernel

theorem witness_InterruptFollowsCommandEnd : ∃ t, exec .gfLog (operands 0 0) = .next t := ⟨_, rfl⟩

/-- Each way an access is not performed: misaligned, narrow on a register, unmapped, read-only. -/
theorem witness_UnperformedAccessesDoNothing :
    (0x1001 : Offset).toNat % Width.half.bytes ≠ 0 ∧ (0x030 : Offset).toNat < 0x34 ∧ Width.byte ≠ .word ∧
    regionOf 0x034 = .unmapped ∧ regionOf 0xFFF = .unmapped ∧ regionOf 0x4020 = .unmapped ∧
    regionOf 0xFFFF = .unmapped ∧ regionOf 0x4000 = .synd ∧ regionOf 0x401F = .synd ∧ regionOf 0x10000 = .matrix ∧
    regionOf 0x1FFFF = .matrix ∧ (hostDoes [.write .word 0x000 1] State.reset).running = none ∧
    (hostDoes [.write .word 0x000 1] State.reset).script = [.write .word 0x000 1] := by
  refine ⟨?_, ?_, ?_, ?_, ?_, ?_, ?_, ?_, ?_, ?_, ?_, rfl, rfl⟩ <;> decide +kernel

/-- The first and the last word of the buffers the host can write. -/
theorem witness_BufferWriteThenRead :
    (hostDoes [.write .word 0x1000 1, .read .word 0x1000] State.reset).script =
      .write .word 0x1000 1 :: .read .word 0x1000 :: [] ∧
    (hostDoes [.write .word 0x1000 1, .read .word 0x1000] State.reset).running = none ∧
    (0x1000 : Offset).toNat % Width.word.bytes = 0 ∧ 0x1000 ≤ (0x1000 : Offset).toNat ∧
    (0x3FFC : Offset).toNat % Width.word.bytes = 0 ∧ (0x3FFC : Offset).toNat < 0x4000 := by
  refine ⟨rfl, rfl, ?_, ?_, ?_, ?_⟩ <;> decide +kernel

/-- The last word of SYND, and the last word of the matrix window's row 176 that has a cell in it. -/
theorem witness_WordReadIsLittleEndian :
    (holding 0x401C [1, 2, 3, 4] State.reset).running = none ∧ (0x401C : Offset).toNat % 4 = 0 ∧
    (0x1B0B0 : Offset).toNat % 4 = 0 ∧ HoldsByte (holding 0x401C [1, 2, 3, 4] State.reset) 0x401C 1 ∧
    HoldsByte (holding 0x401C [1, 2, 3, 4] State.reset) 0x401F 4 ∧ (0x401F : Offset).toNat = 0x401F ∧ HoldsByte (cleared State.reset) 0x1B0B0 0 ∧
    HoldsByte (cleared State.reset) 0x1B0B1 0 := by
  refine ⟨rfl, by decide, by decide, .inl (by decide +kernel), .inl (by decide +kernel), by decide, .inr ⟨176, 176, ?_⟩,
    .inr ⟨176, 177, ?_⟩⟩
  · exact ⟨by decide, by decide, by decide, .inl ⟨by decide, by decide, false, false, by decide +kernel, by decide +kernel, rfl⟩⟩
  · exact ⟨by decide, by decide, by decide, .inr ⟨by decide, rfl⟩⟩

/-- The corner (176, 176), and one past it. -/
theorem witness_MatrixWindowShowsThePlanes :
    (cleared State.reset).running = none ∧ (cleared State.reset).planes.dark.cell? 176 176 = some false ∧
    (cleared State.reset).planes.rsv.cell? 176 176 = some false ∧ 177 > 176 ∧ 255 ≤ 255 := by
  refine ⟨rfl, ?_, ?_, ?_, ?_⟩ <;> decide +kernel

theorem witness_BusyWritesAreDropped :
    (busyWith 0x30 1 [.write .byte 0x1000 1] State.reset).running = some ⟨0x30, 1⟩ ∧
    (busyWith 0x30 1 [.write .byte 0x1000 1] State.reset).script = [.write .byte 0x1000 1] ∧
    (0x1000 : Offset) ≠ 0x004 ∧ (0x1000 : Offset) ≠ 0x008 := by
  refine ⟨rfl, rfl, ?_, ?_⟩ <;> decide +kernel

theorem witness_ReadsHaveNoSideEffect :
    HostIsNext (hostDoes [.read .word 0x008] State.reset) ∧ HostIsNext (busyWith 0x30 1 [.read .byte 0x1000] State.reset) ∧
    (hostDoes [.read .word 0x008] State.reset).script = [.read .word 0x008] ∧
    ({ State.reset with result := 0x8F } : State).running = none ∧ hostRead { State.reset with result := 0x8F } .word 0x020 = 0x8F :=
  ⟨.inl rfl, .inr ⟨⟨0x30, 1⟩, rfl, by decide⟩, rfl, rfl, by decide +kernel⟩

theorem witness_WaitReadsStatusUntilIdle :
    (hostDoes [.wait] State.reset).running = none ∧ (hostDoes [.wait] State.reset).script = [.wait] ∧
    (busyWith 0x30 1 [.wait] State.reset).running = some ⟨0x30, 1⟩ ∧
    (busyWith 0x30 1 [.wait] State.reset).script = [.wait] := ⟨rfl, rfl, rfl, rfl⟩

/-- Clause by clause: busy, illegal, invalid version, block out of range, OPA = 0, bad argument. -/
theorem witness_ChecksAreMadeInOrder :
    (busyWith 0x30 1 [.write .word 0x010 6] State.reset).running = some ⟨0x30, 1⟩ ∧ Illegal 0x01000010 ∧
    NeedsVersion (.rsEcc 200) ∧ NeedsVersion .mxFormat ∧ (configured 0 .L 4).cfg.version.toNat = 0 ∧
    (configured 41 .L 4).cfg.version.toNat > 40 ∧ geometry (configured 1 .M 4).cfg = some g1M ∧ 1 ≥ g1M.blocks ∧
    (operands 0 0).opa = 0 ∧ (31 = 0 ∨ 31 > 30 ∨ 0 > 31) := by
  refine ⟨rfl, ?_, .inl ⟨200, rfl⟩, ?_, ?_, ?_, geometry_1M, ?_, ?_, ?_⟩
  · simp [Illegal, commandPatterns]
  · simp [NeedsVersion]
  all_goals decide +kernel

theorem witness_GfLogIsDiscreteLogarithm : (operands 1 0).opa ≠ 0 ∧ (operands 0 0).opa = 0 := by decide

/-- n and k at both ends of their ranges, and just outside. -/
theorem witness_GfGenIsGeneratorPolynomial :
    (1 ≤ 1 ∧ 1 ≤ 30) ∧ (1 ≤ 30 ∧ 30 ≤ 30) ∧ (0 : Nat) = 0 ∧ 31 > 30 ∧ 8 > 7 := by decide

theorem witness_FieldLaws : (0x8E : Byte) ≠ 0 ∧ 254 ≤ 254 := by decide

theorem witness_RemainderMakesACodeword : 1 ≤ 1 ∧ 30 ≤ 30 := by decide

/-- The last block, and the last byte of DATA it reads, written. -/
theorem witness_RsEccStoresOneRemainder :
    geometry filled5Q.cfg = some g5Q ∧ 3 < g5Q.blocks ∧ 15 < g5Q.len 3 ∧
    filled5Q.mem.lookup (0x1000 + (g5Q.start 3 + 15)) = some 0x5A := by
  refine ⟨?_, ?_, ?_, ?_⟩ <;> decide +kernel

/-- Four blocks; one block. -/
theorem witness_RsEccAllStoresEveryRemainder :
    geometry (configured 5 .Q 4).cfg = some g5Q ∧ geometry (configured 1 .M 4).cfg = some g1M ∧ g1M.blocks = 1 :=
  ⟨geometry_5Q, geometry_1M, rfl⟩

/-- A short block, the first long one, the last byte of each. -/
theorem witness_InterleavePositions :
    geometry (configured 5 .Q 4).cfg = some g5Q ∧ 1 < g5Q.blocks ∧ 14 < g5Q.short ∧ g5Q.blocks - g5Q.nlong ≤ 2 ∧
    17 < g5Q.ecc := by
  refine ⟨geometry_5Q, ?_, ?_, ?_, ?_⟩ <;> decide

theorem witness_RsEncodeIsEccAllThenInterleave : geometry (configured 5 .Q 4).cfg = some g5Q := geometry_5Q

theorem witness_BlocksTileTheData :
    geometryOf 5 .Q = some g5Q ∧ 1 < g5Q.blocks - g5Q.data % g5Q.blocks ∧ 3 < g5Q.blocks := by decide +kernel

/-- With the last correction codeword of the last block written. -/
theorem witness_RsSyndEvaluatesAtTheRoots :
    geometry (configured 5 .Q 4).cfg = some g5Q ∧ 3 < g5Q.blocks ∧ g5Q.ecc ≤ 31 ∧ 17 < g5Q.ecc ∧
    (holding 0x2047 [7] (configured 5 .Q 4)).mem.lookup (0x2000 + (3 * g5Q.ecc + 17)) = some 7 :=
  ⟨geometry_5Q, by decide, by decide, by decide, by decide +kernel⟩

/-- After each of the three commands, run again on the state it leaves. -/
theorem witness_EncodedBlockHasZeroSyndromes :
    geometry filled5Q.cfg = some g5Q ∧ 3 < g5Q.blocks ∧ DataWritten filled5Q g5Q 3 ∧
    ∀ i : Instr, (i = .rsEcc 3 ∨ i = .rsEccAll ∨ i = .rsEncode) → ∃ t, exec i filled5Q = .next t ∧ t.cfg = filled5Q.cfg := by
  refine ⟨by decide +kernel, by decide, by unfold DataWritten; decide +kernel, ?_⟩
  rintro i (rfl | rfl | rfl) <;> exact ⟨_, rfl, rfl⟩

theorem witness_ClearMakesEveryCellLight : 176 ≤ 176 ∧ 0x10000 ≤ (0x1FFFF : Offset).toNat := by decide

theorem witness_TemplateCellByCell :
    geometry (configured 7 .L 4).cfg = some ⟨7, 45, 156, 2, 20, 0⟩ ∧ templateCell 7 45 4 22 = some true ∧
    templateCell 7 45 9 9 = none := by
  refine ⟨?_, ?_, ?_⟩ <;> decide +kernel

theorem witness_AlignmentSkipsThreePairs : 2 ≤ 2 ∧ 40 ≤ 40 ∧ (6, 18) ∉ alignmentCentres 2 25 := by decide +kernel

/-- Version 7 writes both blocks; version 6 writes nothing. -/
theorem witness_VerinfoCellByCell :
    geometry (configured 7 .L 4).cfg = some ⟨7, 45, 156, 2, 20, 0⟩ ∧ verinfoCell 7 45 0 36 = some true ∧
    geometry (configured 6 .L 4).cfg = some ⟨6, 41, 136, 2, 18, 7⟩ ∧ verinfoCell 6 41 0 32 = none := by
  refine ⟨?_, ?_, ?_, ?_⟩ <;> decide +kernel

/-- Version 1: the last cell of the scan (R173). -/
theorem witness_ScanVisitsEachCellOnce : 1 ≤ 1 ∧ 40 ≤ 40 ∧ 419 < 21 * 20 ∧ scanCell 21 419 = (20, 0) := by decide

/-- V-MX-13: the last cell that gets a bit and the first that does not. -/
theorem witness_PlacementPutsBitsInScanOrder :
    geometry (cleared testSeq).cfg = some g1M ∧ ((openCells (cleared testSeq) g1M)[207]?).isSome = true ∧
    207 < 8 * g1M.total ∧ ((openCells (cleared testSeq) g1M)[208]?).isSome = true ∧ ¬208 < 8 * g1M.total ∧
    (cleared testSeq).mem.lookup (seqBase + 207 / 8) = some 0x88 := by
  refine ⟨?_, ?_, ?_, ?_, ?_, ?_⟩ <;> decide +kernel

/-- A reserved cell, column 6, and cells past the symbol. -/
theorem witness_PlacementLeavesReservedCellsAlone :
    geometry (configured 1 .M 4).cfg = some g1M ∧
    ((State.reset.planes.stamp [⟨3, 4, true⟩]).rsv.cell? 3 4 = some true) ∧ g1M.size ≤ 21 := by
  refine ⟨geometry_1M, ?_, ?_⟩ <;> decide +kernel

/-- The first and the last cell of each copy, and a cell of neither. -/
theorem witness_FormatWritesTheCode :
    geometry (configured 1 .M 4).cfg = some g1M ∧ strip1[0]? = some (0, 8) ∧ strip1[14]? = some (8, 0) ∧
    (strip2 21)[0]? = some (8, 20) ∧ (strip2 21)[14]? = some (20, 8) ∧ (9, 9) ∉ strip1 ∧ (9, 9) ∉ strip2 21 ∧
    ((9, 9) : Nat × Nat) ≠ (21 - 8, 8) := by
  refine ⟨geometry_1M, ?_, ?_, ?_, ?_, ?_, ?_, ?_⟩ <;> decide

theorem witness_BuildIsFiveCommands : geometry (configured 1 .M 4).cfg = some g1M := geometry_1M

theorem witness_QrEncodeIsEncodeThenBuild : geometry (configured 1 .M 4).cfg = some g1M := geometry_1M

/-- Two states with the same CFG and SEQ that differ in the planes. -/
theorem witness_BuildDependsOnlyOnConfigAndSeq :
    geometry testSeq.cfg = some g1M ∧ (cleared testSeq).cfg = testSeq.cfg ∧ SeqWritten testSeq g1M ∧
    (∀ k < g1M.total, (cleared testSeq).mem.lookup (seqBase + k) = testSeq.mem.lookup (seqBase + k)) := by
  refine ⟨by decide +kernel, rfl, by unfold SeqWritten; decide +kernel, fun _ _ => rfl⟩

/-- 5-Q has cells past the symbol, remainder cells (REM = 7, so the last open cell is after the 8·T bits) and both copies. -/
theorem witness_BuildReservesExactlyTheStructure :
    geometry (configured 5 .Q 4).cfg = some g5Q ∧ g5Q.size ≤ 176 ∧ 8 * g5Q.total ≤ 8 * g5Q.total + g5Q.rem - 1 ∧
    strip1[14]? = some (8, 0) ∧ (strip2 37)[0]? = some (8, 36) :=
  ⟨geometry_5Q, by decide, by decide, rfl, rfl⟩

theorem witness_TablesMatchTheirFormulas : 2 ≤ 40 ∧ 7 ≤ 7 ∧ 7 < 8 := by decide

theorem witness_CommandsWriteOnlyTheirOutputs : ∃ t, exec .nop State.reset = .next t := ⟨_, rfl⟩

/-- A payload of exactly the capacity, and one byte more (R202). -/
theorem witness_BitStreamFillsTheCapacity :
    8 * dataCodewords 1 .L ≥ headerBits 1 + 8 * (List.replicate 17 (0 : Byte)).length ∧
    8 * dataCodewords 1 .L < headerBits 1 + 8 * (List.replicate 18 (0 : Byte)).length := by decide +kernel

theorem witness_SelectedVersionIsMonotone :
    1 ≤ 39 ∧ selectVersion 230 .L = some 9 ∧ selectVersion 231 .L = some 10 := by decide +kernel

/-- The request of V-MX-10 passes the checks with the codewords of V-RS-1, from states with ERR clear and set; an empty
payload does not pass. -/
theorem witness_EncodeAnswersWhatQrEncodeLeaves :
    testRequest.prepare.toOption = some (1, testData) ∧ State.reset.running = none ∧ State.reset.status.err = false ∧
    ({ State.reset with status := ⟨false, true, false, false⟩, errcode := .badArg } : State).status.err = true ∧
    ({ testRequest with data := [] } : EncodeRequest).prepare = .error .invalidArgument ∧
    testRequest.data ≠ [] ∧ testRequest.level = levelNumber .M ∧ testRequest.version = none ∧
    selectVersion testRequest.data.length .M = some 1 ∧
    8 * dataCodewords 1 .M ≥ headerBits 1 + 8 * testRequest.data.length ∧
    8 * dataCodewords 1 .M < headerBits 1 + 8 * (List.replicate 20 (1 : Byte)).length := by
  refine ⟨?_, rfl, rfl, rfl, rfl, ?_, rfl, rfl, ?_, ?_, ?_⟩ <;> decide +kernel

end Sys2Proof.Tests
end

section
/-! SUPPORT. The registers as the host reaches them: what a word read returns and what a performed word write does, one
equation per register; which step serves a host access; and the register words bit by bit. With these, the statements of
10_state.md about commands, reset and registers. -/

namespace Sys2Proof.Proofs

open Sys2Proof Sys2Proof.Machine Sys2Proof.Claims Sys2Proof.Safety Sys2Proof.Laws

/-! ### Word reads of the registers (R21 to R32) -/

theorem hostRead_id (s : State) : hostRead s .word 0x000 = idValue := rfl
theorem hostRead_ctrl (s : State) : hostRead s .word 0x004 = ctrlWord s := rfl
theorem hostRead_status (s : State) : hostRead s .word 0x008 = statusWord s := rfl
theorem hostRead_errcode (s : State) : hostRead s .word 0x00C = s.errcode.code := rfl
theorem hostRead_cmd (s : State) : hostRead s .word 0x010 = 0 := rfl
theorem hostRead_cfg (s : State) : hostRead s .word 0x014 = cfgWord s.cfg := rfl
theorem hostRead_opa (s : State) : hostRead s .word 0x018 = s.opa.setWidth 32 := rfl
theorem hostRead_opb (s : State) : hostRead s .word 0x01C = s.opb.setWidth 32 := rfl
theorem hostRead_result (s : State) :
    hostRead s .word 0x020 = idleRegister s 0x020 (s.result.setWidth 32) := rfl
theorem hostRead_geom (s : State) :
    hostRead s .word 0x024 = idleRegister s 0x024 (geomWord s.cfg) := rfl
theorem hostRead_dlen (s : State) :
    hostRead s .word 0x028 = idleRegister s 0x028 (dlenWord s.cfg) := rfl
theorem hostRead_tlen (s : State) :
    hostRead s .word 0x02C = idleRegister s 0x02C (tlenWord s.cfg) := rfl
theorem hostRead_blkinfo (s : State) :
    hostRead s .word 0x030 = idleRegister s 0x030 (blkinfoWord s.cfg) := rfl

/-- BUSY reads 0 when no command is in progress (R23, R25). -/
theorem busy_of_idle {s : State} (hr : s.running = none) : s.busy = false := by
  simp [State.busy, hr]

/-- While the engine is idle, RESULT and the geometry registers read as what they hold (R67). -/
theorem idleRegister_of_idle {s : State} (hr : s.running = none) (a : Nat) (v : Word) :
    idleRegister s a v = v := by
  simp [idleRegister, busy_of_idle hr]

/-! ### Performed word writes of the registers (R22 to R30) -/

theorem performWrite_cmd (v : Word) (s : State) : performWrite .word 0x010 v s = s.accept v := rfl
theorem performWrite_cfg (v : Word) (s : State) :
    performWrite .word 0x014 v s = { s with cfg := cfgOfWord v } := rfl
theorem performWrite_opa (v : Word) (s : State) :
    performWrite .word 0x018 v s = { s with opa := v.extractLsb' 0 8 } := rfl
theorem performWrite_opb (v : Word) (s : State) :
    performWrite .word 0x01C v s = { s with opb := v.extractLsb' 0 8 } := rfl
theorem performWrite_result (v : Word) (s : State) : performWrite .word 0x020 v s = s := rfl

/-- With SRST clear a write of CTRL writes IE and nothing else (R22). -/
theorem writeCtrl_of_srst_clear {v : Word} (hv : v.getLsbD 1 = false) (s : State) :
    writeCtrl v s = { s with ie := v.getLsbD 0 } := by
  rw [writeCtrl, hv, if_neg Bool.false_ne_true]

/-! ### Which write is performed (R254) -/

/-- While the engine is idle every write is performed. -/
theorem hostWrite_of_idle {s : State} (hr : s.running = none) (w : Width) (off : Offset) (v : Word) :
    hostWrite w off v s = performWrite w off v s := by
  simp [hostWrite, busy_of_idle hr]

/-- While a command is in progress a write elsewhere than at CTRL and STATUS is dropped and sets OVR. -/
theorem hostWrite_of_busy {s : State} {off : Offset} (hb : s.busy = true) (hctrl : off ≠ 0x004)
    (hstatus : off ≠ 0x008) (w : Width) (v : Word) : hostWrite w off v s = s.setOvr := by
  rw [hostWrite, if_pos ⟨hb, hctrl, hstatus⟩]

/-- A word write of CTRL is performed, idle or busy. -/
theorem hostWrite_ctrl (v : Word) (s : State) : hostWrite .word 0x004 v s = writeCtrl v s := by
  rw [hostWrite, if_neg fun h => h.2.1 rfl, performWrite_ctrl, if_pos rfl]

/-- A word write of STATUS is performed, idle or busy. -/
theorem hostWrite_status (v : Word) (s : State) : hostWrite .word 0x008 v s = acknowledge v s := by
  rw [hostWrite, if_neg fun h => h.2.2 rfl, performWrite_status, if_pos rfl]

/-! ### The step that serves a host access (R70) -/

/-- With the engine idle, a step performs the host's write. -/
theorem step_write_of_idle {s : State} {w : Width} {off : Offset} {v : Word} {rest : List HostOp}
    (hr : s.running = none) (hs : s.script = .write w off v :: rest) :
    step s = .next (performWrite w off v { s with script := rest }) :=
  (step_idle hr hs).trans (congrArg _ (hostWrite_of_idle (s := { s with script := rest }) hr w off v))

/-- Idle or busy, a host action that is next is served with the same command, or none, in progress; only the count of
the accesses left before its end may differ (log 3). -/
theorem step_of_hostIsNext {s : State} {op : HostOp} {rest : List HostOp} (h : HostIsNext s)
    (hs : s.script = op :: rest) :
    ∃ run : Option Running, run.map Running.word = s.running.map Running.word ∧
      step s = .next (serve op { s with script := rest, running := run }) := by
  rcases h with hr | ⟨r, hr, hw⟩
  · refine ⟨none, by rw [hr], ?_⟩
    rw [step_idle hr hs, ← hr]
  · exact ⟨_, by rw [hr]; rfl, step_served hr hw hs⟩

/-- A word that decodes is carried out as its command. -/
theorem runWord_of_decode {w : Word} {i : Instr} (h : decode w = .ok i) (s : State) :
    runWord w s = exec i s := by
  simp [runWord, h]

/-! ### STATUS bit by bit (R23, R228) -/

/-- STATUS reads as its stored bits and BUSY. -/
theorem statusWord_congr {s t : State} (hstatus : t.status = s.status) (hbusy : t.busy = s.busy) :
    statusWord t = statusWord s := by
  rw [statusWord, statusWord, hstatus, hbusy]

/-- An acknowledgement clears in STATUS, as read, the bits it names among DONE, ERR and OVR. -/
theorem statusWord_acknowledge (v : Word) (s : State) :
    statusWord (acknowledge v s) = statusWord s &&& ~~~(v &&& 0x16) := by
  have hbusy : (acknowledge v s).busy = s.busy := rfl
  refine BitVec.eq_of_getLsbD_eq fun i hi => ?_
  simp only [statusWord, hbusy, BitVec.getLsbD_and, BitVec.getLsbD_append (m := 1)]
  interval_cases i <;> simp

/-! ### CTRL, CFG and the operands bit by bit (R22, R26 to R30) -/

/-- CTRL reads IE in bit 0 and 0 elsewhere. -/
theorem ctrlWord_eq_and_one {s : State} {v : Word} (h : s.ie = v.getLsbD 0) : ctrlWord s = v &&& 1 := by
  refine BitVec.eq_of_getLsbD_eq fun i hi => ?_
  simp only [ctrlWord, h, BitVec.getLsbD_append (m := 1)]
  cases i <;> simp

/-- The low byte of a word, zero above, is the word masked with 0xFF. -/
theorem setWidth_extractLsb'_low_byte (v : Word) : (v.extractLsb' 0 8).setWidth 32 = v &&& 0xFF := by
  apply BitVec.eq_of_toNat_eq
  rw [BitVec.toNat_and, show (0xFF : Word).toNat = 2 ^ 8 - 1 from rfl, Nat.and_two_pow_sub_one_eq_mod,
    BitVec.toNat_setWidth, BitVec.extractLsb'_toNat, Nat.shiftRight_zero]
  omega

/-- A level is named by its code (R29). -/
theorem code_ofCode {c : Nat} (h : c < 4) : (Level.ofCode c).code = c := by
  interval_cases c <;> rfl

/-- What CFG.LEVEL holds after a write is the two bits written. -/
theorem cfgOfWord_level_code (v : Word) : (cfgOfWord v).level.code = (v.extractLsb' 8 2).toNat :=
  code_ofCode (v.extractLsb' 8 2).isLt

/-- CFG reads back the bits of VERSION, LEVEL and MASK as written, and 0 in the reserved bits. -/
theorem cfgWord_cfgOfWord (v : Word) : cfgWord (cfgOfWord v) = v &&& 0x0007033F := by
  have hlevel : BitVec.ofNat 2 (cfgOfWord v).level.code = v.extractLsb' 8 2 := by
    rw [cfgOfWord_level_code, BitVec.ofNat_toNat, BitVec.setWidth_eq]
  rw [cfgWord, hlevel]
  refine BitVec.eq_of_getLsbD_eq fun i hi => ?_
  simp only [cfgOfWord, BitVec.getLsbD_append (m := 6), BitVec.getLsbD_append (m := 2), BitVec.getLsbD_append (m := 3)]
  interval_cases i <;> simp

/-! ### The geometry registers (R32) -/

/-- Fields side by side as a number: the lower one, of `m` bits, counts for what it holds. -/
theorem toNat_append_field {n : Nat} (m : Nat) (x : BitVec n) (y : BitVec m) :
    (x ++ y).toNat = x.toNat * 2 ^ m + y.toNat := by
  rw [BitVec.toNat_append, ← Nat.shiftLeft_add_eq_or_of_lt y.isLt, Nat.shiftLeft_eq]

section
variable {cfg : Cfg} {g : Geometry} (h : geometry cfg = some g)
include h

/-- GEOM holds S, B, E and REM, each in a byte, for the table's bounds keep each below 256. -/
theorem geomWord_toNat :
    (geomWord cfg).toNat = g.size + 256 * g.blocks + 65536 * g.ecc + 16777216 * g.rem := by
  obtain ⟨_, hv, hsize, _, hblocks, _, hecc, _, _, _, _, hrem, _⟩ := bounds_of_geometry h
  simp only [geomWord, h, toNat_append_byte, BitVec.toNat_ofNat]
  omega

/-- DLEN holds D. -/
theorem dlenWord_toNat : (dlenWord cfg).toNat = g.data := by
  have htotal := (bounds_of_geometry h).total_le
  rw [Geometry.total] at htotal
  simp only [dlenWord, h, toNat_append_field 12, BitVec.toNat_ofNat]
  omega

/-- TLEN holds T. -/
theorem tlenWord_toNat : (tlenWord cfg).toNat = g.total := by
  have htotal := (bounds_of_geometry h).total_le
  simp only [tlenWord, h, toNat_append_field 12, BitVec.toNat_ofNat]
  omega

/-- BLKINFO holds SHORT and NLONG, each in a byte. -/
theorem blkinfoWord_toNat : (blkinfoWord cfg).toNat = g.short + 256 * g.nlong := by
  have hb := bounds_of_geometry h
  have hblocks := hb.blocks_le
  have hshort := hb.short_lt
  have hnlong : g.nlong < g.blocks := Nat.mod_lt _ hb.blocks_pos
  simp only [blkinfoWord, h, toNat_append_byte, BitVec.toNat_ofNat]
  omega

/-- The quantities that CFG selects are those of its version. -/
theorem version_eq_of_geometry : g.version = cfg.version.toNat := by
  simp only [geometry, geometryOf, Option.map_eq_some_iff] at h
  obtain ⟨row, -, rfl⟩ := h
  rfl

end

/-- A version outside 1..40 selects nothing (R28). -/
theorem geometry_eq_none {cfg : Cfg} (h : cfg.version.toNat = 0 ∨ cfg.version.toNat > 40) :
    geometry cfg = none := by
  rw [← Option.not_isSome_iff_eq_none, geometry_isSome_iff]
  omega

/-! ### The obligations -/

/-- Settles O5: a command that is about to end is carried out, and its word decodes. -/
theorem stepRunsTheDecodedCommand : Obligations.StepRunsTheDecodedCommand :=
  fun _ _ _ hr hw hi => (step_ends hr hw).trans (runWord_of_decode hi _)

/-- Settles O6: idle, the write is performed; busy, CMD is neither CTRL nor STATUS. -/
theorem cmdWriteAcceptedOrDropped : Obligations.CmdWriteAcceptedOrDropped := by
  refine ⟨fun s w rest hr hs => ⟨_, step_write_of_idle hr hs⟩, fun s r w rest hr hw hs => ?_, hostRead_cmd, rfl⟩
  rw [step_served hr hw hs, serve]
  exact congrArg _ (hostWrite_of_busy rfl (by decide) (by decide) _ _)

/-- Settles O12: nothing is stored and no bit is set. -/
theorem resetHasTheInvariant : Obligations.ResetHasTheInvariant where
  memory := wf_nil
  errorNamed := by simp [State.reset]
  reservedValued := by simp [State.reset]

/-- Settles O13: the engine is idle after reset, so every register reads as the value it holds. -/
theorem resetValues : Obligations.ResetValues := by
  have hr : State.reset.running = none := rfl
  simp only [Obligations.ResetValues, hostRead_id, hostRead_ctrl, hostRead_status, hostRead_errcode,
    hostRead_cfg, hostRead_opa, hostRead_opb, hostRead_result, hostRead_geom, hostRead_dlen, hostRead_tlen,
    hostRead_blkinfo, idleRegister_of_idle hr]
  exact ⟨rfl, rfl, rfl, rfl, hostRead_cmd _, rfl, rfl, rfl, rfl, rfl, rfl, rfl, rfl, lookup_nil,
    fun r c => ⟨cell_unwritten r c, cell_unwritten r c⟩, rfl, rfl⟩

/-- Settles O15: the write is performed as an acknowledgement, idle or busy, with the same BUSY before and after. -/
theorem statusWriteClearsNamedBits : Obligations.StatusWriteClearsNamedBits := by
  intro s v rest h hs
  obtain ⟨run, hrun, hstep⟩ := step_of_hostIsNext h hs
  have hbusy : run.isSome = s.busy := by simpa [State.busy] using congrArg Option.isSome hrun
  rw [serve, hostWrite_status] at hstep
  have hword : statusWord { s with script := rest, running := run } = statusWord s := statusWord_congr rfl hbusy
  refine ⟨_, hstep, ?_, rfl, hrun⟩
  rw [statusWord_acknowledge, hword]

/-- Settles O16: the fields hold the bits written, and read back as those. -/
theorem configReadsBackItsFields : Obligations.ConfigReadsBackItsFields := by
  intro s v rest hr hs
  refine ⟨_, step_write_of_idle hr hs, ?_, rfl, cfgOfWord_level_code v, rfl, rfl⟩
  rw [performWrite_cfg, hostRead_cfg, cfgWord_cfgOfWord]

/-- Settles O17: OPA, OPB and RESULT while idle, CTRL idle or busy. -/
theorem operandAndControlWrites : Obligations.OperandAndControlWrites := by
  refine ⟨fun s v rest hr => ⟨fun hs => ?opa, fun hs => ?opb, fun hs => ?result⟩, fun s v rest h hs hv => ?ctrl⟩
  case opa =>
    refine ⟨_, step_write_of_idle hr hs, ?_, rfl⟩
    rw [performWrite_opa, hostRead_opa, setWidth_extractLsb'_low_byte]
  case opb =>
    refine ⟨_, step_write_of_idle hr hs, ?_, rfl⟩
    rw [performWrite_opb, hostRead_opb, setWidth_extractLsb'_low_byte]
  case result => exact step_write_of_idle hr hs
  case ctrl =>
    obtain ⟨run, hrun, hstep⟩ := step_of_hostIsNext h hs
    rw [serve, hostWrite_ctrl, writeCtrl_of_srst_clear hv] at hstep
    exact ⟨_, hstep, ctrlWord_eq_and_one rfl, rfl, hrun⟩

/-- Settles O18: each field fits the bits it has, by the bounds of the structure table. -/
theorem geometryRegistersFollowConfig : Obligations.GeometryRegistersFollowConfig := by
  intro s hr
  simp only [hostRead_geom, hostRead_dlen, hostRead_tlen, hostRead_blkinfo, idleRegister_of_idle hr]
  refine ⟨fun g h => ?valid, fun h => ?invalid⟩
  case valid =>
    have hsize := (bounds_of_geometry h).size_eq
    rw [version_eq_of_geometry h] at hsize
    exact ⟨geomWord_toNat h, hsize, dlenWord_toNat h, tlenWord_toNat h, blkinfoWord_toNat h⟩
  case invalid =>
    simp [geomWord, dlenWord, tlenWord, blkinfoWord, geometry_eq_none h]

end Sys2Proof.Proofs
end

section
/-! SUPPORT. Host accesses outside the registers (20_memory.md): the regions an access lies in, what the bus reads there
byte by byte and as a little-endian value, and what a performed write changes. With these, the statements about host
accesses. -/

namespace Sys2Proof.Proofs

open Sys2Proof Sys2Proof.Machine Sys2Proof.Claims Sys2Proof.Safety Sys2Proof.Laws

/-! ### Alignment and regions (R60, R62, R64) -/

theorem aligned_iff (w : Width) (a : Nat) : aligned w a = true ↔ a % w.bytes = 0 := by
  simp [aligned]

/-- The registers lie below 0x34. -/
theorem regionOf_eq_registers_iff (a : Nat) : regionOf a = .registers ↔ a < 0x34 := by
  constructor
  · intro h
    by_contra hge
    rw [regionOf, if_neg hge] at h
    split_ifs at h
  · exact fun h => if_pos h

/-- The buffers that the host writes lie side by side. -/
theorem regionOf_writable_buffer {a : Nat} (hlo : 0x1000 ≤ a) (hhi : a < 0x4000) :
    regionOf a = .data ∨ regionOf a = .ecc ∨ regionOf a = .seq := by
  rw [regionOf, if_neg (by omega), if_neg (by omega)]
  split_ifs <;> simp

/-- Above the registers and outside those buffers, nothing can be written. -/
theorem regionOf_unwritable {a : Nat} (hreg : ¬a < 0x34) (hbuf : ¬(0x1000 ≤ a ∧ a < 0x4000)) :
    regionOf a = .synd ∨ regionOf a = .matrix ∨ regionOf a = .unmapped := by
  rw [regionOf, if_neg hreg]
  split_ifs <;> simp <;> omega

/-- SYND follows the writable buffers. -/
theorem regionOf_synd {a : Nat} (hlo : 0x4000 ≤ a) (hhi : a < 0x4020) : regionOf a = .synd := by
  rw [regionOf, if_neg (by omega), if_neg (by omega), if_neg (by omega), if_neg (by omega), if_neg (by omega),
    if_pos hhi]

/-- The upper half of the host window is the matrix window. -/
theorem regionOf_matrix {a : Nat} (hlo : 0x10000 ≤ a) (hhi : a < 0x20000) : regionOf a = .matrix := by
  rw [regionOf, if_neg (by omega), if_neg (by omega), if_neg (by omega), if_neg (by omega), if_neg (by omega),
    if_neg (by omega), if_neg (by omega), if_pos hhi]

/-- An aligned access lies on one side of every multiple of 4. -/
theorem add_lt_iff_of_aligned {w : Width} {a i : Nat} (ha : a % w.bytes = 0) (hi : i < w.bytes) {b : Nat}
    (hb : b % 4 = 0) : a + i < b ↔ a < b := by
  cases w <;> simp only [Width.bytes] at ha hi <;> omega

/-- An aligned access lies in one region, for every region begins at a multiple of 4. -/
theorem regionOf_add_of_aligned {w : Width} {a i : Nat} (ha : a % w.bytes = 0) (hi : i < w.bytes) :
    regionOf (a + i) = regionOf a := by
  have hlt {b : Nat} (hb : b % 4 = 0) : a + i < b ↔ a < b := add_lt_iff_of_aligned ha hi hb
  simp only [regionOf, hlt (b := 0x34) rfl, hlt (b := 0x1000) rfl, hlt (b := 0x2000) rfl, hlt (b := 0x3000) rfl,
    hlt (b := 0x4000) rfl, hlt (b := 0x4020) rfl, hlt (b := 0x10000) rfl, hlt (b := 0x20000) rfl]

/-! ### Reads outside the registers (R41, R61 to R66) -/

/-- A misaligned read returns 0 (R64). -/
theorem hostRead_of_misaligned (s : State) {w : Width} {off : Offset} (h : off.toNat % w.bytes ≠ 0) :
    hostRead s w off = 0 :=
  if_neg (mt (aligned_iff w _).1 h)

/-- A byte or halfword read of a register returns 0 (R61). -/
theorem hostRead_of_narrow_register (s : State) {w : Width} {off : Offset} (hoff : off.toNat < 0x34)
    (hw : w ≠ .word) : hostRead s w off = 0 := by
  simp [hostRead, (regionOf_eq_registers_iff _).2 hoff, hw]

/-- An aligned read outside the registers returns its bytes (R62). -/
theorem hostRead_outside_registers (s : State) {w : Width} {off : Offset} (ha : off.toNat % w.bytes = 0)
    (hoff : 0x34 ≤ off.toNat) : hostRead s w off = readBytes s w off.toNat := by
  have hreg : regionOf off.toNat ≠ .registers := mt (regionOf_eq_registers_iff _).1 (by omega)
  rw [hostRead, if_pos ((aligned_iff w _).2 ha)]
  split
  · contradiction
  · rfl

theorem readBytes_byte_toNat (s : State) (a : Nat) :
    (readBytes s .byte a).toNat = (hostReadByte s a).toNat :=
  BitVec.toNat_setWidth_of_le (by decide)

theorem readBytes_half_toNat (s : State) (a : Nat) :
    (readBytes s .half a).toNat = (hostReadByte s a).toNat + 256 * (hostReadByte s (a + 1)).toNat := by
  simp only [readBytes, BitVec.toNat_setWidth, toNat_append_byte]
  omega

theorem readBytes_word_toNat (s : State) (a : Nat) :
    (readBytes s .word a).toNat = (hostReadByte s a).toNat + 256 * (hostReadByte s (a + 1)).toNat +
      65536 * (hostReadByte s (a + 2)).toNat + 16777216 * (hostReadByte s (a + 3)).toNat := by
  simp only [readBytes, wordOfBytes, toNat_append_byte]
  omega

/-- A byte of an unmapped offset reads 0 (R65). -/
theorem hostReadByte_unmapped (s : State) {a : Nat} (h : regionOf a = .unmapped) : hostReadByte s a = 0 := by
  simp [hostReadByte, h]

/-- With the engine idle, a written byte of a buffer reads as what it holds (R33 to R36). -/
theorem hostReadByte_of_lookup {s : State} {a : Nat} {b : Byte} (hr : s.running = none) (hlo : 0x1000 ≤ a)
    (hhi : a < 0x4020) (h : s.mem.lookup a = some b) : hostReadByte s a = b := by
  have hbuf : hostReadByte s a = readByte s 0 a := by
    have hregion : (regionOf a = .data ∨ regionOf a = .ecc ∨ regionOf a = .seq) ∨ regionOf a = .synd := by
      by_cases hsynd : a < 0x4000
      · exact .inl (regionOf_writable_buffer hlo hsynd)
      · exact .inr (regionOf_synd (by omega) hhi)
    rcases hregion with (hreg | hreg | hreg) | hreg <;> simp [hostReadByte, hreg, busy_of_idle hr]
  rw [hbuf, readByte_of_lookup h]

/-- With the engine idle, the matrix window shows the byte of each cell (R66). -/
theorem hostReadByte_matrix {s : State} {r c : Nat} (hr : s.running = none) (hrow : r < 256) (hcol : c < 256) :
    hostReadByte s (0x10000 + 256 * r + c) = matrixByte s r c := by
  have hrow' : (0x10000 + 256 * r + c - 0x10000) / 256 = r := by omega
  have hcol' : (0x10000 + 256 * r + c - 0x10000) % 256 = c := by omega
  simp only [hostReadByte, regionOf_matrix (show 0x10000 ≤ 0x10000 + 256 * r + c by omega) (by omega),
    busy_of_idle hr, Bool.false_eq_true, if_false, matrixBase, hrow', hcol']

/-- The byte of a written cell holds DARK in bit 0 and RSV in bit 1 (R66). -/
theorem matrixByte_toNat {s : State} {r c : Nat} {dark rsv : Bool} (hrow : r ≤ 176) (hcol : c ≤ 176)
    (hd : s.planes.dark.cell? r c = some dark) (hv : s.planes.rsv.cell? r c = some rsv) :
    (matrixByte s r c).toNat = dark.toNat + 2 * rsv.toNat := by
  rw [matrixByte, if_pos ⟨hrow, hcol⟩, readRsv, readDark, hd, hv, toNat_append_field 1, toNat_append_field 1]
  simp only [Option.getD_some, BitVec.toNat_ofBool, BitVec.toNat_ofNat]
  omega

/-- The byte of a cell outside the planes is 0 (R66). -/
theorem matrixByte_outside (s : State) {r c : Nat} (h : r > 176 ∨ c > 176) : matrixByte s r c = 0 :=
  if_neg (by omega)

/-- With the engine idle, a byte that is known reads as what it is. -/
theorem hostReadByte_of_holdsByte {s : State} {a : Nat} {b : Byte} (hr : s.running = none) (h : HoldsByte s a b) :
    hostReadByte s a = b := by
  rcases h with ⟨hlo, hhi, hb⟩ | ⟨r, c, hrow, hcol, rfl, hcell⟩
  · exact hostReadByte_of_lookup hr hlo hhi hb
  · rw [hostReadByte_matrix hr hrow hcol]
    rcases hcell with ⟨hrow, hcol, dark, rsv, hd, hv, hb⟩ | ⟨hout, rfl⟩
    · exact BitVec.eq_of_toNat_eq ((matrixByte_toNat hrow hcol hd hv).trans hb.symm)
    · exact matrixByte_outside s hout

/-- A byte that is known is no register's. -/
theorem le_of_holdsByte {s : State} {a : Nat} {b : Byte} (h : HoldsByte s a b) : 0x34 ≤ a := by
  rcases h with ⟨hlo, -, -⟩ | ⟨r, c, -, -, rfl, -⟩ <;> omega

/-! ### Performed writes (R61 to R65) -/

/-- A read-only register ignores a write (R21, R24, R30, R32). -/
theorem writeRegister_readOnly {a : Nat} (h : a ∈ [0x000, 0x00C, 0x020, 0x024, 0x028, 0x02C, 0x030]) (v : Word)
    (s : State) : writeRegister v a s = s := by
  simp only [List.mem_cons, List.not_mem_nil, or_false] at h
  rcases h with rfl | rfl | rfl | rfl | rfl | rfl | rfl <;> rfl

/-- A misaligned write is not performed (R64). -/
theorem performWrite_of_misaligned {w : Width} {off : Offset} (h : off.toNat % w.bytes ≠ 0) (v : Word) (s : State) :
    performWrite w off v s = s :=
  if_neg (mt (aligned_iff w _).1 h)

/-- An aligned write at a register is a word write of it, or nothing (R61). -/
theorem performWrite_register {w : Width} {off : Offset} (ha : off.toNat % w.bytes = 0) (hoff : off.toNat < 0x34)
    (v : Word) (s : State) :
    performWrite w off v s = if w = .word then writeRegister v off.toNat s else s := by
  rw [performWrite, if_pos ((aligned_iff w _).2 ha), (regionOf_eq_registers_iff _).2 hoff]

/-- An aligned write of DATA, ECC or SEQ stores its bytes (R62, R63). -/
theorem performWrite_buffer {w : Width} {off : Offset} (ha : off.toNat % w.bytes = 0) (hlo : 0x1000 ≤ off.toNat)
    (hhi : off.toNat < 0x4000) (v : Word) (s : State) :
    performWrite w off v s = { s with mem := s.mem.storeBytes off.toNat (writtenBytes w v) } := by
  rw [performWrite, if_pos ((aligned_iff w _).2 ha)]
  rcases regionOf_writable_buffer hlo hhi with h | h | h <;> rw [h]

/-- A write elsewhere, at SYND, the matrix window or an unmapped offset, is not performed (R36, R65, R66). -/
theorem performWrite_of_unwritable (w : Width) {off : Offset}
    (h : regionOf off.toNat = .synd ∨ regionOf off.toNat = .matrix ∨ regionOf off.toNat = .unmapped) (v : Word)
    (s : State) : performWrite w off v s = s := by
  rw [performWrite]
  rcases h with h | h | h <;> rw [h] <;> exact ite_self s

/-- What a performed write can do: nothing, a word write of a register, or the bytes of an aligned write of DATA, ECC or
SEQ. -/
theorem performWrite_cases (w : Width) (off : Offset) (v : Word) (s : State) :
    performWrite w off v s = s ∨ performWrite w off v s = writeRegister v off.toNat s ∨
      (off.toNat % w.bytes = 0 ∧ 0x1000 ≤ off.toNat ∧ off.toNat < 0x4000 ∧
        performWrite w off v s = { s with mem := s.mem.storeBytes off.toNat (writtenBytes w v) }) := by
  by_cases ha : off.toNat % w.bytes = 0
  · by_cases hreg : off.toNat < 0x34
    · rw [performWrite_register ha hreg]
      split_ifs
      · exact .inr (.inl rfl)
      · exact .inl rfl
    · by_cases hbuf : 0x1000 ≤ off.toNat ∧ off.toNat < 0x4000
      · exact .inr (.inr ⟨ha, hbuf.1, hbuf.2, performWrite_buffer ha hbuf.1 hbuf.2 v s⟩)
      · exact .inl (performWrite_of_unwritable w (regionOf_unwritable hreg hbuf) v s)
  · exact .inl (performWrite_of_misaligned ha v s)

/-! ### The bytes of a write (R63) -/

@[simp] theorem length_writtenBytes (w : Width) (v : Word) : (writtenBytes w v).length = w.bytes := by
  cases w <;> rfl

/-- Byte i of a write is the i-th byte of the value from below. -/
theorem writtenBytes_getElem? {w : Width} {i : Nat} (hi : i < w.bytes) (v : Word) :
    (writtenBytes w v)[i]? = some (v.extractLsb' (8 * i) 8) := by
  cases w <;> simp only [Width.bytes] at hi <;> interval_cases i <;> rfl

/-- After a write, each of its bytes holds what was written. -/
theorem lookup_storeBytes_writtenBytes (m : Memory) (a : Nat) {w : Width} {i : Nat} (hi : i < w.bytes) (v : Word) :
    (m.storeBytes a (writtenBytes w v)).lookup (a + i) = some (v.extractLsb' (8 * i) 8) := by
  rw [lookup_storeBytes, length_writtenBytes, if_pos ⟨by omega, by omega⟩, Nat.add_sub_cancel_left,
    writtenBytes_getElem? hi]

theorem extract_byte_toNat (v : Word) (i : Nat) : (v.extractLsb' i 8).toNat = v.toNat / 2 ^ i % 256 := by
  rw [BitVec.extractLsb'_toNat, Nat.shiftRight_eq_div_pow]

/-- A read whose bytes are those of a value returns as much of the value as the access carries. -/
theorem readBytes_toNat_of_extract {s : State} {w : Width} {a : Nat} {v : Word}
    (h : ∀ i < w.bytes, hostReadByte s (a + i) = v.extractLsb' (8 * i) 8) :
    (readBytes s w a).toNat = v.toNat % 2 ^ (8 * w.bytes) := by
  have hv := v.isLt
  have h0 : hostReadByte s a = v.extractLsb' 0 8 := h 0 (by cases w <;> decide)
  cases w with
  | byte =>
    simp only [readBytes_byte_toNat, h0, extract_byte_toNat, Width.bytes]
    omega
  | half =>
    simp only [readBytes_half_toNat, h0, h 1 (by decide), extract_byte_toNat, Width.bytes]
    omega
  | word =>
    simp only [readBytes_word_toNat, h0, h 1 (by decide), h 2 (by decide), h 3 (by decide), extract_byte_toNat,
      Width.bytes]
    omega

/-- A read at an unmapped offset returns 0, aligned or not (R64, R65). -/
theorem hostRead_of_unmapped (s : State) (w : Width) {off : Offset} (h : regionOf off.toNat = .unmapped) :
    hostRead s w off = 0 := by
  have hoff : 0x34 ≤ off.toNat := by
    by_contra hlt
    rw [(regionOf_eq_registers_iff _).2 (by omega)] at h
    cases h
  by_cases ha : off.toNat % w.bytes = 0
  · rw [hostRead_outside_registers s ha hoff]
    refine BitVec.eq_of_toNat_eq ((readBytes_toNat_of_extract (v := 0) fun i hi => ?_).trans (Nat.zero_mod _))
    rw [hostReadByte_unmapped s ((regionOf_add_of_aligned ha hi).trans h)]
    simp
  · exact hostRead_of_misaligned s ha

/-! ### The control registers as numbers (R22, R23, R26, R29, R223) -/

theorem ctrlWord_toNat (s : State) : (ctrlWord s).toNat = s.ie.toNat := by
  simp [ctrlWord, toNat_append_field 1]

theorem statusWord_toNat (s : State) :
    (statusWord s).toNat = s.running.isSome.toNat + 2 * s.status.done.toNat + 4 * s.status.err.toNat +
      8 * s.status.synz.toNat + 16 * s.status.ovr.toNat := by
  simp only [statusWord, State.busy, toNat_append_field 1, BitVec.toNat_ofBool, BitVec.toNat_ofNat]
  omega

theorem errCode_code_toNat (e : ErrCode) : e.code.toNat = errNumber e := by
  cases e <;> rfl

theorem ofNat_levelCode_toNat (l : Level) : (BitVec.ofNat 2 l.code).toNat = levelNumber l := by
  cases l <;> rfl

theorem cfgWord_toNat (cfg : Cfg) :
    (cfgWord cfg).toNat = cfg.version.toNat + 256 * levelNumber cfg.level + 65536 * cfg.mask.toNat := by
  simp only [cfgWord, toNat_append_field 6, toNat_append_field 2, toNat_append_field 3, ofNat_levelCode_toNat,
    BitVec.toNat_zero]
  omega

/-! ### The obligations -/

/-- Settles O20: an aligned access at an unmapped offset stays among unmapped ones, so each of its bytes reads 0; and a
write is performed only at a writable register, as a word, or in DATA, ECC or SEQ. -/
theorem unperformedAccessesDoNothing : Obligations.UnperformedAccessesDoNothing := by
  refine fun s w off => ⟨fun h => ?read, fun h v rest hr hs => ?write⟩
  case read =>
    rcases h with h | ⟨hoff, hw⟩ | h
    · exact hostRead_of_misaligned s h
    · exact hostRead_of_narrow_register s hoff hw
    · exact hostRead_of_unmapped s w h
  case write =>
    rw [step_write_of_idle hr hs]
    congr 1
    by_cases ha : off.toNat % w.bytes = 0
    · rcases h with h | ⟨hoff, hw⟩ | h | h | h | h
      · exact absurd ha h
      · rw [performWrite_register ha hoff, if_neg hw]
      · exact performWrite_of_unwritable w (.inr (.inr h)) v _
      · exact performWrite_of_unwritable w (.inl h) v _
      · exact performWrite_of_unwritable w (.inr (.inl h)) v _
      · have hoff : off.toNat < 0x34 := by
          simp only [List.mem_cons, List.not_mem_nil, or_false] at h
          omega
        rw [performWrite_register ha hoff, writeRegister_readOnly h, ite_self]
    · exact performWrite_of_misaligned ha v _

/-- Settles O21: the write stores the bytes of the value, the read finds each of them, and both steps are idle. -/
theorem bufferWriteThenRead : Obligations.BufferWriteThenRead := by
  intro s w off v rest hr hs ha hlo hhi
  have hwrite := step_write_of_idle hr hs
  rw [performWrite_buffer ha hlo hhi] at hwrite
  refine ⟨_, (run_succ hwrite).trans (run_succ (step_idle hr rfl)), ?_, ?_, rfl⟩
  · rw [serve, hostRead_outside_registers _ ha (by omega)]
    refine readBytes_toNat_of_extract fun i hi => ?_
    have hend : off.toNat + i < 0x4000 := (add_lt_iff_of_aligned ha hi rfl).2 hhi
    exact hostReadByte_of_lookup hr (by omega) (by omega) (lookup_storeBytes_writtenBytes _ _ hi v)
  · intro a hout
    exact (lookup_storeBytes _ _ _ _).trans (if_neg (by rwa [length_writtenBytes]))

/-- Settles O22: each byte reads as what it is known to be, and a wider read puts them side by side. -/
theorem wordReadIsLittleEndian : Obligations.WordReadIsLittleEndian := by
  intro s off b0 b1 b2 b3 hr h0
  have hoff := le_of_holdsByte h0
  refine ⟨?_, fun ha h1 => ?_, fun ha h1 h2 h3 => ?_⟩
  · rw [hostRead_outside_registers s (Nat.mod_one _) hoff, readBytes_byte_toNat, hostReadByte_of_holdsByte hr h0]
  · rw [hostRead_outside_registers s ha hoff, readBytes_half_toNat, hostReadByte_of_holdsByte hr h0,
      hostReadByte_of_holdsByte hr h1]
  · rw [hostRead_outside_registers s ha hoff, readBytes_word_toNat, hostReadByte_of_holdsByte hr h0,
      hostReadByte_of_holdsByte hr h1, hostReadByte_of_holdsByte hr h2, hostReadByte_of_holdsByte hr h3]

/-- Settles O23: a byte read of the window is the byte of its cell. -/
theorem matrixWindowShowsThePlanes : Obligations.MatrixWindowShowsThePlanes := by
  intro s r c hr hrow hcol
  have hread : hostRead s .byte (BitVec.ofNat 17 (0x10000 + 256 * r + c)) = (matrixByte s r c).setWidth 32 := by
    have hoff : (BitVec.ofNat 17 (0x10000 + 256 * r + c)).toNat = 0x10000 + 256 * r + c := by
      rw [BitVec.toNat_ofNat]
      omega
    rw [hostRead_outside_registers s (Nat.mod_one _) (by omega), hoff, readBytes,
      hostReadByte_matrix hr (by omega) (by omega)]
  rw [hread]
  refine ⟨fun hout => ?_, fun dark rsv hrow hcol hd hv => ?_⟩
  · rw [matrixByte_outside s hout]
    rfl
  · rw [BitVec.toNat_setWidth_of_le (by decide), matrixByte_toNat hrow hcol hd hv]

/-- Settles O25: serving a read writes the host's side only, and each register's word is the number of its fields. -/
theorem readsHaveNoSideEffect : Obligations.ReadsHaveNoSideEffect := by
  refine ⟨fun s w off rest h hs => ?_, fun s => ?_⟩
  · obtain ⟨run, hrun, hstep⟩ := step_of_hostIsNext h hs
    exact ⟨_, hstep, rfl, hrun⟩
  · refine ⟨hostRead_id s, ctrlWord_toNat s, hostRead_status s, statusWord_toNat s, errCode_code_toNat _,
      hostRead_cfg s, cfgWord_toNat _, ?opa, ?opb, fun hr => ?result⟩
    case opa => rw [hostRead_opa, BitVec.toNat_setWidth_of_le (by decide)]
    case opb => rw [hostRead_opb, BitVec.toNat_setWidth_of_le (by decide)]
    case result => rw [hostRead_result, idleRegister_of_idle hr, BitVec.toNat_setWidth_of_le (by decide)]

end Sys2Proof.Proofs
end

section
/-! SUPPORT. Every step keeps the invariant: what each update of the state needs to keep it, what each command's effect
writes, and the events a step can be. -/

namespace Sys2Proof.Proofs

open Sys2Proof Sys2Proof.Machine Sys2Proof.Claims Sys2Proof.Safety Sys2Proof.Laws

/-! ### Lengths of what the Reed-Solomon commands write (R115, R134, R138, R142) -/

/-- GEN[n] has n + 1 coefficients. -/
@[simp] theorem length_genPoly (n : Nat) : (genPoly n).length = n + 1 := by
  induction n with
  | zero => rfl
  | succ n ih => simp [genPoly, mulByRoot, ih]

/-- The shift register keeps its length. -/
theorem length_remainderStep {g rem : List Byte} (h : g.length = rem.length) (m : Byte) :
    (remainderStep g rem m).length = rem.length := by
  simp only [remainderStep, List.length_zipWith, List.length_append, List.length_tail, List.length_singleton]
  omega

/-- A block has E correction codewords. -/
@[simp] theorem length_rsRemainder (m : List Byte) (E : Nat) : (rsRemainder m E).length = E := by
  have run (rem : List Byte) (h : rem.length = E) :
      (m.foldl (remainderStep (genPoly E).tail) rem).length = E := by
    induction m generalizing rem with
    | nil => exact h
    | cons x m ih => exact ih _ ((length_remainderStep (by simp [h]) x).trans h)
  exact run _ List.length_replicate

/-- The data part of the sequence has at most one codeword more for each block than the blocks' common length. -/
theorem length_interleaveData_le (s : State) (g : Geometry) :
    (interleaveData s g).length ≤ (g.short + 1) * g.blocks := by
  rw [interleaveData, List.length_flatMap]
  refine (List.sum_le_card_nsmul _ g.blocks ?_).trans ?_
  · intro n hn
    obtain ⟨i, -, rfl⟩ := List.mem_map.1 hn
    exact (List.length_filterMap_le _ _).trans List.length_range.le
  · rw [List.length_map, List.length_range, smul_eq_mul]
    refine Nat.mul_le_mul_right _ ?_
    split_ifs <;> omega

/-- The correction part of the sequence has E codewords for each block. -/
theorem length_interleaveEcc (s : State) (g : Geometry) : (interleaveEcc s g).length = g.ecc * g.blocks := by
  simp [interleaveEcc]

@[simp] theorem length_syndromes (c : List Byte) (E : Nat) : (syndromes c E).length = 32 := by
  simp [syndromes]

/-! ### What the commands leave in the buffers (R60) -/

theorem isBufferByte_iff (a : Nat) : isBufferByte a = true ↔ 0x1000 ≤ a ∧ a < 0x4020 := decide_eq_true_iff

/-- The correction codewords of every block lie in ECC. -/
theorem wf_storeEcc {g : Geometry} (hg : GeometryBounds g) {b : Nat} (hb : b < g.blocks) (s : State) {m : Memory}
    (hm : m.wf) : (storeEcc s g m b).wf := by
  have hend : b * g.ecc + g.ecc ≤ g.blocks * g.ecc := by
    rw [← Nat.succ_mul]
    exact Nat.mul_le_mul_right _ hb
  have htotal := hg.eccs_le
  refine wf_storeBytes _ hm fun i hi => (isBufferByte_iff _).2 ?_
  rw [length_rsRemainder] at hi
  rw [eccBase]
  omega

/-- Block by block, the correction codewords stay in ECC. -/
theorem wf_foldl_storeEcc {g : Geometry} (hg : GeometryBounds g) (s : State) {l : List Nat} (hl : ∀ b ∈ l, b < g.blocks)
    {m : Memory} (hm : m.wf) : (l.foldl (storeEcc s g) m).wf := by
  induction l generalizing m with
  | nil => exact hm
  | cons b l ih =>
    exact ih (fun b' hb' => hl b' (List.mem_cons_of_mem _ hb')) (wf_storeEcc hg (hl b List.mem_cons_self) s hm)

/-- The codeword sequence lies in SEQ. -/
theorem wf_interleaveBody {g : Geometry} (hg : GeometryBounds g) {s : State} (hm : s.mem.wf) :
    (interleaveBody g s).mem.wf := by
  have hdata : g.short * g.blocks ≤ g.data := Nat.div_mul_le_self _ _
  have hlen := length_interleaveData_le s g
  rw [Nat.succ_mul] at hlen
  have htotal := hg.total_le
  rw [Geometry.total] at htotal
  have hblocks := hg.blocks_le
  refine wf_storeBytes _ hm fun i hi => (isBufferByte_iff _).2 ?_
  rw [List.length_append, length_interleaveEcc, Nat.mul_comm g.ecc] at hi
  rw [seqBase]
  omega

theorem syndBody_mem (g : Geometry) (b : Nat) (s : State) : (syndBody g b s).mem =
    s.mem.storeBytes syndBase (syndromes (dataBlock s g b ++ eccBlock s g b) g.ecc) := by
  simp [syndBody]

/-- The syndromes fill SYND. -/
theorem wf_syndBody (g : Geometry) (b : Nat) {s : State} (hm : s.mem.wf) : (syndBody g b s).mem.wf := by
  rw [syndBody_mem]
  refine wf_storeBytes _ hm fun i hi => (isBufferByte_iff _).2 ?_
  rw [length_syndromes] at hi
  rw [syndBase]
  omega

/-! ### What the commands leave in the planes (R160) -/

/-- Every cell with a written RSV bit has a written DARK bit: the invariant's clause, of the planes alone. -/
def ReservedValued (p : Planes) : Prop :=
  ∀ r c, (p.rsv.cell? r c).isSome = true → (p.dark.cell? r c).isSome = true

/-- A written cell stays written. -/
theorem isSome_cell_put {p : Plane} {r' c' : Nat} (h : (p.cell? r' c').isSome = true) (r c : Nat) (x : Bool) :
    ((Plane.put p r c x).cell? r' c').isSome = true := by
  rw [cell_put]
  split_ifs
  · rfl
  · exact h

/-- "set" writes both bits of a cell. -/
theorem reservedValued_put {p : Planes} (h : ReservedValued p) (r c : Nat) (x y : Bool) :
    ReservedValued ⟨Plane.put p.dark r c x, Plane.put p.rsv r c y⟩ := by
  intro r' c' hrsv
  simp only [cell_put] at hrsv ⊢
  split_ifs with hcell
  · rfl
  · rw [if_neg hcell] at hrsv
    exact h r' c' hrsv

/-- Stamp by stamp, both bits of every cell that is set are written. -/
theorem reservedValued_stamp {p : Planes} (h : ReservedValued p) (l : List Stamp) : ReservedValued (p.stamp l) := by
  induction l generalizing p with
  | nil => exact h
  | cons st l ih => exact ih (reservedValued_put h st.row st.col st.dark true)

/-- Placement writes DARK only, and what was written stays so. -/
theorem isSome_cell_placeCells {r' c' : Nat} (fill : RemainderFill) (reserved : Nat → Nat → Bool) (bit : Nat → Bool)
    (inv : Nat → Nat → Bool) (limit : Nat) (cells : List (Nat × Nat)) (k : Nat) {dark : Plane}
    (h : (dark.cell? r' c').isSome = true) :
    ((placeCells fill reserved bit inv limit cells k dark).cell? r' c').isSome = true := by
  induction cells generalizing k dark with
  | nil => exact h
  | cons cell cells ih =>
    obtain ⟨r, c⟩ := cell
    unfold placeCells
    split_ifs
    · exact ih k h
    · exact ih (k + 1) (isSome_cell_put h r c _)
    · cases fill with
      | zeroMasked => exact ih k (isSome_cell_put h r c _)
      | leave => exact h

/-! ### What each update of the state needs to keep the invariant -/

/-- Either reset leaves what reset leaves. -/
theorem inv_resetCore (s : State) : Inv s.resetCore :=
  ⟨resetHasTheInvariant.memory, resetHasTheInvariant.errorNamed, resetHasTheInvariant.reservedValued⟩

section
variable {s : State} (h : Inv s)
include h

theorem inv_setResult (v : Byte) : Inv (s.setResult v) := ⟨h.memory, h.errorNamed, h.reservedValued⟩

theorem inv_setMem {m : Memory} (hm : m.wf) : Inv (s.setMem m) := ⟨hm, h.errorNamed, h.reservedValued⟩

theorem inv_setPlanes {p : Planes} (hp : ReservedValued p) : Inv (s.setPlanes p) := ⟨h.memory, h.errorNamed, hp⟩

theorem inv_nextDraw : Inv s.nextDraw := ⟨h.memory, h.errorNamed, h.reservedValued⟩

theorem inv_setSynz (x : Bool) : Inv (s.setSynz x) := ⟨h.memory, h.errorNamed, h.reservedValued⟩

theorem inv_setOvr : Inv s.setOvr := ⟨h.memory, h.errorNamed, h.reservedValued⟩

theorem inv_finish : Inv s.finish := ⟨h.memory, h.errorNamed, h.reservedValued⟩

theorem inv_fail {code : ErrCode} (hcode : code ≠ .none) : Inv (s.fail code) :=
  ⟨h.memory, fun _ => hcode, h.reservedValued⟩

/-- An acknowledgement only clears ERR. -/
theorem inv_acknowledge (v : Word) : Inv (acknowledge v s) where
  memory := h.memory
  errorNamed herr := h.errorNamed (Bool.and_elim_left herr)
  reservedValued := h.reservedValued

/-! ### The commands' effects -/

theorem inv_eccBody {g : Geometry} (hg : GeometryBounds g) {b : Nat} (hb : b < g.blocks) : Inv (eccBody g b s) :=
  inv_setMem h (wf_storeEcc hg hb s h.memory)

theorem inv_eccAllBody {g : Geometry} (hg : GeometryBounds g) : Inv (eccAllBody g s) :=
  inv_setMem h (wf_foldl_storeEcc hg s (fun _ hb => List.mem_range.1 hb) h.memory)

theorem inv_interleaveBody {g : Geometry} (hg : GeometryBounds g) : Inv (interleaveBody g s) :=
  inv_setMem h (wf_interleaveBody hg h.memory)

theorem inv_encodeBody {g : Geometry} (hg : GeometryBounds g) : Inv (encodeBody g s) :=
  inv_interleaveBody (inv_eccAllBody h hg) hg

theorem inv_syndBody (g : Geometry) (b : Nat) : Inv (syndBody g b s) where
  memory := wf_syndBody g b h.memory
  errorNamed := by simpa using h.errorNamed
  reservedValued := by simpa using h.reservedValued

theorem inv_clearBody : Inv (clearBody s) := inv_setPlanes h fun _ _ hcell => hcell

theorem inv_templateBody (g : Geometry) : Inv (templateBody g s) :=
  inv_setPlanes h (reservedValued_stamp h.reservedValued _)

theorem inv_verinfoBody (g : Geometry) : Inv (verinfoBody g s) :=
  inv_setPlanes h (reservedValued_stamp h.reservedValued _)

theorem inv_placeBody (g : Geometry) : Inv (placeBody g s) :=
  inv_nextDraw (inv_setPlanes h fun r c hrsv =>
    isSome_cell_placeCells _ _ _ _ _ _ _ (h.reservedValued r c hrsv))

theorem inv_formatBody (g : Geometry) : Inv (formatBody g s) :=
  inv_setPlanes h (reservedValued_stamp h.reservedValued _)

theorem inv_buildBody (g : Geometry) : Inv (buildBody g s) :=
  inv_formatBody (inv_placeBody (inv_verinfoBody (inv_templateBody (inv_clearBody h) g) g) g) g

end

/-! ### The end of a command (R220 to R222, R224) -/

/-- Whatever state the result goes on with meets the invariant. -/
def LeadsToInv (r : Result) : Prop := ∀ t, r = .next t → Inv t

theorem leadsToInv_next {s : State} (h : Inv s) : LeadsToInv (.next s) := by
  rintro t ⟨⟩
  exact h

section
variable {s : State} (h : Inv s)
include h

theorem leadsToInv_succeed : LeadsToInv (succeed s) := leadsToInv_next (inv_finish h)

theorem leadsToInv_raise {code : ErrCode} (hcode : code ≠ .none) : LeadsToInv (raise code s) :=
  leadsToInv_next (inv_fail h hcode)

/-- A "needs version" command keeps the invariant if its body does within the bounds of the structure table. -/
theorem leadsToInv_withGeometry {body : Geometry → Result} (hbody : ∀ g, GeometryBounds g → LeadsToInv (body g)) :
    LeadsToInv (withGeometry s body) := by
  rcases withGeometry_cases s body with ⟨-, hnone⟩ | ⟨g, -, hg, hsome⟩
  · rw [hnone]
    exact leadsToInv_next (inv_fail h (by decide))
  · rw [hsome]
    exact hbody g hg

theorem leadsToInv_execGfLog : LeadsToInv (execGfLog s) := by
  rw [execGfLog]
  split
  · exact leadsToInv_raise h (by decide)
  · exact leadsToInv_succeed (inv_setResult h _)

theorem leadsToInv_execGfGen (n k : Nat) : LeadsToInv (execGfGen n k s) := by
  rw [execGfGen]
  split_ifs
  · exact leadsToInv_raise h (by decide)
  · exact leadsToInv_succeed (inv_setResult h _)

/-- The check of the block number keeps RS_ECC within ECC. -/
theorem leadsToInv_execRsEcc (b : Nat) : LeadsToInv (execRsEcc b s) := by
  refine leadsToInv_withGeometry h fun g hg => ?_
  split_ifs with hb
  · exact leadsToInv_raise h (by decide)
  · exact leadsToInv_succeed (inv_eccBody h hg (not_le.1 hb))

theorem leadsToInv_execRsSynd (b : Nat) : LeadsToInv (execRsSynd b s) := by
  refine leadsToInv_withGeometry h fun g _ => ?_
  split_ifs
  · exact leadsToInv_raise h (by decide)
  · exact leadsToInv_succeed (inv_syndBody h g b)

theorem leadsToInv_exec (i : Instr) : LeadsToInv (exec i s) := by
  cases i with
  | nop => exact leadsToInv_succeed h
  | gfAdd => exact leadsToInv_succeed (inv_setResult h _)
  | gfMul => exact leadsToInv_succeed (inv_setResult h _)
  | gfLog => exact leadsToInv_execGfLog h
  | gfExp => exact leadsToInv_succeed (inv_setResult h _)
  | gfGen n k => exact leadsToInv_execGfGen h n k
  | rsEcc b => exact leadsToInv_execRsEcc h b
  | rsEccAll => exact leadsToInv_withGeometry h fun g hg => leadsToInv_succeed (inv_eccAllBody h hg)
  | rsInterleave => exact leadsToInv_withGeometry h fun g hg => leadsToInv_succeed (inv_interleaveBody h hg)
  | rsSynd b => exact leadsToInv_execRsSynd h b
  | rsEncode => exact leadsToInv_withGeometry h fun g hg => leadsToInv_succeed (inv_encodeBody h hg)
  | mxClear => exact leadsToInv_succeed (inv_clearBody h)
  | mxTemplate => exact leadsToInv_withGeometry h fun g _ => leadsToInv_succeed (inv_templateBody h g)
  | mxVerinfo => exact leadsToInv_withGeometry h fun g _ => leadsToInv_succeed (inv_verinfoBody h g)
  | mxPlace => exact leadsToInv_withGeometry h fun g _ => leadsToInv_succeed (inv_placeBody h g)
  | mxFormat => exact leadsToInv_withGeometry h fun g _ => leadsToInv_succeed (inv_formatBody h g)
  | mxBuild => exact leadsToInv_withGeometry h fun g _ => leadsToInv_succeed (inv_buildBody h g)
  | qrEncode =>
    exact leadsToInv_withGeometry h fun g hg => leadsToInv_succeed (inv_buildBody (inv_encodeBody h hg) g)

theorem leadsToInv_runWord (w : Word) : LeadsToInv (runWord w s) := by
  rcases runWord_cases w s with ⟨i, -, hrun⟩ | ⟨e, -, hrun⟩
  · rw [hrun]
    exact leadsToInv_exec h i
  · rw [hrun]
    exact leadsToInv_next (inv_fail h (by decide))

/-! ### The service of a host action (R61 to R68, R250 to R254) -/

theorem inv_writeCtrl (v : Word) : Inv (writeCtrl v s) := by
  rw [writeCtrl]
  split_ifs
  · exact inv_resetCore s
  · exact ⟨h.memory, h.errorNamed, h.reservedValued⟩

/-- Of the registers, CTRL (by a reset) and STATUS (by clearing ERR) bear on the invariant. -/
theorem inv_writeRegister (v : Word) (a : Nat) : Inv (writeRegister v a s) := by
  unfold writeRegister
  split
  · exact inv_writeCtrl h v
  · exact inv_acknowledge h v
  all_goals exact ⟨h.memory, h.errorNamed, h.reservedValued⟩

/-- An aligned write of a buffer stays among the buffers' bytes. -/
theorem inv_performWrite (w : Width) (off : Offset) (v : Word) : Inv (performWrite w off v s) := by
  rcases performWrite_cases w off v s with hw | hw | ⟨ha, hlo, hhi, hw⟩ <;> rw [hw]
  · exact h
  · exact inv_writeRegister h v _
  · refine ⟨wf_storeBytes _ h.memory fun i hi => (isBufferByte_iff _).2 ?_, h.errorNamed, h.reservedValued⟩
    rw [length_writtenBytes] at hi
    have hend : off.toNat + i < 0x4000 := (add_lt_iff_of_aligned ha hi rfl).2 hhi
    omega

theorem inv_serve (op : HostOp) : Inv (serve op s) := by
  cases op with
  | write w off v =>
    rcases hostWrite_cases w off v s with ⟨-, -, -, hw⟩ | ⟨-, hw⟩ <;> rw [serve, hw]
    · exact inv_setOvr h
    · exact inv_performWrite h w off v
  | read w off => exact ⟨h.memory, h.errorNamed, h.reservedValued⟩
  | wait => exact ⟨h.memory, h.errorNamed, h.reservedValued⟩
  | hardReset => exact inv_resetCore s

/-- What the host still has to do, and the command in progress, bear on no clause of the invariant. -/
theorem inv_pending (script : List HostOp) (running : Option Running) :
    Inv { s with script := script, running := running } :=
  ⟨h.memory, h.errorNamed, h.reservedValued⟩

end

/-! ### The obligation -/

/-- Settles O11: a step carries out a command, serves a host action or changes nothing. -/
theorem stepKeepsTheInvariant : Obligations.StepKeepsTheInvariant := by
  intro s t h
  rcases step_cases s with ⟨r, -, -, hstep⟩ | ⟨r, op, rest, -, -, -, hstep⟩ | ⟨op, rest, -, -, hstep⟩ | ⟨-, -, hstep⟩ <;>
    rw [hstep]
  · exact leadsToInv_runWord h r.word t
  · exact leadsToInv_next (inv_serve (inv_pending h rest _) op) t
  · exact leadsToInv_next (inv_serve (inv_pending h rest s.running) op) t
  · exact leadsToInv_next h t

end Sys2Proof.Proofs
end

section
/-! SUPPORT. Command words (30_encoding.md): a word is its four fields; it decodes to a command exactly when its fields are
those of that command, which is to match that command's row of the table. With these, the statements about encoding, and
those about an illegal word that is carried out and about WAIT. -/

namespace Sys2Proof.Proofs

open Sys2Proof Sys2Proof.Machine Sys2Proof.Claims Sys2Proof.Safety Sys2Proof.Laws

/-! ### The fields of a word (R90) -/

theorem opField_lt (w : Word) : opField w < 256 := (w.extractLsb' 0 8).isLt
theorem a1Field_lt (w : Word) : a1Field w < 256 := (w.extractLsb' 8 8).isLt
theorem a2Field_lt (w : Word) : a2Field w < 256 := (w.extractLsb' 16 8).isLt
theorem rsvdField_lt (w : Word) : rsvdField w < 256 := (w.extractLsb' 24 8).isLt

/-- A word is the number of its four fields, OP lowest. -/
theorem toNat_eq_fields (w : Word) :
    w.toNat = ((rsvdField w * 256 + a2Field w) * 256 + a1Field w) * 256 + opField w := by
  simp only [opField, a1Field, a2Field, rsvdField, BitVec.extractLsb'_toNat, Nat.shiftRight_eq_div_pow]
  omega

/-- A word with RSVD = 0 is the packing of its other fields. -/
theorem packWord_of_fields {w : Word} (h : rsvdField w = 0) :
    packWord (opField w) (a1Field w) (a2Field w) = w := by
  apply BitVec.eq_of_toNat_eq
  rw [packWord_toNat, toNat_eq_fields w, h, Nat.mod_eq_of_lt (opField_lt w), Nat.mod_eq_of_lt (a1Field_lt w),
    Nat.mod_eq_of_lt (a2Field_lt w), Nat.zero_mul, Nat.zero_add]

/-- Two words are equal when their fields are. -/
theorem eq_iff_fields (v w : Word) :
    v = w ↔ opField v = opField w ∧ a1Field v = a1Field w ∧ a2Field v = a2Field w ∧ rsvdField v = rsvdField w := by
  refine ⟨fun h => by simp [h], fun ⟨hop, h1, h2, hr⟩ => BitVec.eq_of_toNat_eq ?_⟩
  rw [toNat_eq_fields v, toNat_eq_fields w, hop, h1, h2, hr]

/-! ### The fields of a command (R91 to R93) -/

theorem opcodeOf_lt (i : Instr) : opcodeOf i < 256 := by
  cases i <;> simp [opcodeOf]

/-- A command is well formed when its operands are bytes. -/
theorem wellFormed_iff (i : Instr) :
    i.wellFormed = true ↔ (operandsOf i).1 < 256 ∧ (operandsOf i).2 < 256 := by
  cases i <;> simp [Instr.wellFormed, fitsField, operandsOf]

/-- The word holds the command's OP and operands where its fields hold them, and RSVD = 0. -/
def HasFields (w : Word) (i : Instr) : Prop :=
  opField w = opcodeOf i ∧ a1Field w = (operandsOf i).1 ∧ a2Field w = (operandsOf i).2 ∧ rsvdField w = 0

/-- The encoding of a well-formed command has the command's fields. -/
theorem hasFields_encode {i : Instr} (h : i.wellFormed = true) : HasFields (encode i) i := by
  obtain ⟨h1, h2⟩ := (wellFormed_iff i).1 h
  exact fields_of_bytes i (opcodeOf_lt i) h1 h2 h

/-- The fields of a word are bytes, so the operands fit. -/
theorem HasFields.wellFormed {w : Word} {i : Instr} (h : HasFields w i) : i.wellFormed = true := by
  obtain ⟨-, h1, h2, -⟩ := h
  exact (wellFormed_iff i).2 ⟨h1 ▸ a1Field_lt w, h2 ▸ a2Field_lt w⟩

/-- The fields leave no bit of the word open. -/
theorem HasFields.encode_eq {w : Word} {i : Instr} (h : HasFields w i) : encode i = w := by
  obtain ⟨hop, h1, h2, hrsvd⟩ := h
  rw [encode, ← hop, ← h1, ← h2, packWord_of_fields hrsvd]

/-! ### What the decoder answers (R91, R93) -/

/-- Format F0 accepts a word whose other fields are 0. -/
theorem hasFields_of_formatF0 {w : Word} {i j : Instr} (hop : opField w = opcodeOf j) (hj : operandsOf j = (0, 0))
    (h : formatF0 w j = .ok i) : HasFields w i := by
  rw [formatF0] at h
  split_ifs at h with hz
  obtain ⟨h1, h2, hrsvd⟩ := hz
  obtain rfl := Except.ok.inj h
  exact ⟨hop, by rw [h1, hj], by rw [h2, hj], hrsvd⟩

/-- Format F1 accepts a word whose A2 and RSVD are 0, and takes A1 as the operand. -/
theorem hasFields_of_formatF1 {w : Word} {mk : Nat → Instr} {i : Instr} (hop : ∀ b, opField w = opcodeOf (mk b))
    (hmk : ∀ b, operandsOf (mk b) = (b, 0)) (h : formatF1 w mk = .ok i) : HasFields w i := by
  rw [formatF1] at h
  split_ifs at h with hz
  obtain ⟨h2, hrsvd⟩ := hz
  obtain rfl := Except.ok.inj h
  exact ⟨hop _, by rw [hmk], by rw [h2, hmk], hrsvd⟩

/-- Format F2 accepts a word whose RSVD is 0, and takes A1 and A2 as the operands. -/
theorem hasFields_of_formatF2 {w : Word} {mk : Nat → Nat → Instr} {i : Instr}
    (hop : ∀ n k, opField w = opcodeOf (mk n k)) (hmk : ∀ n k, operandsOf (mk n k) = (n, k))
    (h : formatF2 w mk = .ok i) : HasFields w i := by
  rw [formatF2] at h
  split_ifs at h with hrsvd
  obtain rfl := Except.ok.inj h
  exact ⟨hop _ _, by rw [hmk], by rw [hmk], hrsvd⟩

/-- The decoder answers a command only where the word has its fields. -/
theorem hasFields_of_decode {w : Word} {i : Instr} (h : decode w = .ok i) : HasFields w i := by
  unfold decode at h
  split at h
  -- GF_GEN, RS_ECC and RS_SYND take operands; the last case is the unassigned OPs.
  case h_6 hop => exact hasFields_of_formatF2 (mk := .gfGen) (fun _ _ => hop) (fun _ _ => rfl) h
  case h_7 hop => exact hasFields_of_formatF1 (mk := .rsEcc) (fun _ => hop) (fun _ => rfl) h
  case h_10 hop => exact hasFields_of_formatF1 (mk := .rsSynd) (fun _ => hop) (fun _ => rfl) h
  case h_19 => cases h
  all_goals exact hasFields_of_formatF0 ‹_› rfl h

/-- The decoder answers the command whose fields the word has. -/
theorem decode_of_hasFields {w : Word} {i : Instr} (h : HasFields w i) : decode w = .ok i := by
  obtain ⟨hop, h1, h2, hrsvd⟩ := h
  cases i <;> simp only [opcodeOf, operandsOf] at hop h1 h2 <;>
    simp [decode, formatF0, formatF1, formatF2, hop, h1, h2, hrsvd]

/-- A word decodes to a command exactly when its fields are the command's. -/
theorem decode_eq_ok_iff (w : Word) (i : Instr) : decode w = .ok i ↔ HasFields w i :=
  ⟨hasFields_of_decode, decode_of_hasFields⟩

/-- The decoder refuses a word exactly when the word has the fields of no command. -/
theorem decode_error_iff (w : Word) : (∃ e, decode w = .error e) ↔ ∀ i, ¬HasFields w i := by
  simp only [← decode_eq_ok_iff]
  cases decode w <;> simp

/-! ### The rows of the command table (R91, R93) -/

/-- The bits of a command's word that its format fixes. -/
def maskOf : Instr → Word
  | .gfGen _ _ => 0xFF0000FF#32
  | .rsEcc _ => 0xFFFF00FF#32
  | .rsSynd _ => 0xFFFF00FF#32
  | _ => 0xFFFFFFFF#32

/-- The command's row of the table: match and mask. -/
def rowOf (i : Instr) : Word × Word := (packWord (opcodeOf i) 0 0, maskOf i)

/-- The eighteen commands, with these operands where the format has any. -/
def commandsWith (a1 a2 : Nat) : List Instr :=
  [.nop, .gfAdd, .gfMul, .gfLog, .gfExp, .gfGen a1 a2, .rsEcc a1, .rsEccAll, .rsInterleave, .rsSynd a1, .rsEncode,
    .mxClear, .mxTemplate, .mxVerinfo, .mxPlace, .mxFormat, .mxBuild, .qrEncode]

/-- The table has one row for each command, whatever its operands. -/
theorem commandPatterns_eq_map_rowOf (a1 a2 : Nat) : commandPatterns = (commandsWith a1 a2).map rowOf := by
  simp [commandPatterns, commandsWith, rowOf, opcodeOf, maskOf, packWord]

/-- A mask acts on each field by itself. -/
theorem and_eq_packWord_iff (w m : Word) {op : Nat} (hop : op < 256) :
    w &&& m = packWord op 0 0 ↔ opField w &&& opField m = op ∧ a1Field w &&& a1Field m = 0 ∧
      a2Field w &&& a2Field m = 0 ∧ rsvdField w &&& rsvdField m = 0 := by
  obtain ⟨pop, p1, p2, pr⟩ := packWord_fields op 0 0
  rw [eq_iff_fields, pop, p1, p2, pr, Nat.mod_eq_of_lt hop]
  simp [opField, a1Field, a2Field, rsvdField, BitVec.extractLsb'_and]

/-- A field that a mask keeps. -/
theorem and_ones_of_lt {x : Nat} (h : x < 256) : x &&& 255 = x := Nat.and_two_pow_sub_one_of_lt_two_pow (n := 8) h

section
variable (w : Word) {op : Nat} (hop : op < 256)
include hop

/-- The mask of F0 keeps every field. -/
theorem matches_F0_iff : w &&& 0xFFFFFFFF#32 = packWord op 0 0 ↔
    opField w = op ∧ a1Field w = 0 ∧ a2Field w = 0 ∧ rsvdField w = 0 := by
  have hmask : opField 0xFFFFFFFF#32 = 255 ∧ a1Field 0xFFFFFFFF#32 = 255 ∧ a2Field 0xFFFFFFFF#32 = 255 ∧
    rsvdField 0xFFFFFFFF#32 = 255 := by decide
  simp [and_eq_packWord_iff w _ hop, hmask, and_ones_of_lt, opField_lt, a1Field_lt, a2Field_lt, rsvdField_lt]

/-- The mask of F1 drops A1. -/
theorem matches_F1_iff : w &&& 0xFFFF00FF#32 = packWord op 0 0 ↔
    opField w = op ∧ a2Field w = 0 ∧ rsvdField w = 0 := by
  have hmask : opField 0xFFFF00FF#32 = 255 ∧ a1Field 0xFFFF00FF#32 = 0 ∧ a2Field 0xFFFF00FF#32 = 255 ∧
    rsvdField 0xFFFF00FF#32 = 255 := by decide
  simp [and_eq_packWord_iff w _ hop, hmask, and_ones_of_lt, opField_lt, a2Field_lt, rsvdField_lt]

/-- The mask of F2 drops A1 and A2. -/
theorem matches_F2_iff : w &&& 0xFF0000FF#32 = packWord op 0 0 ↔ opField w = op ∧ rsvdField w = 0 := by
  have hmask : opField 0xFF0000FF#32 = 255 ∧ a1Field 0xFF0000FF#32 = 0 ∧ a2Field 0xFF0000FF#32 = 0 ∧
    rsvdField 0xFF0000FF#32 = 255 := by decide
  simp [and_eq_packWord_iff w _ hop, hmask, and_ones_of_lt, opField_lt, rsvdField_lt]

end

/-- A word has a command's fields exactly when it matches the command's row and the command's operands are the word's. -/
theorem hasFields_iff_matches (w : Word) (i : Instr) :
    HasFields w i ↔ i ∈ commandsWith (a1Field w) (a2Field w) ∧ w &&& (rowOf i).2 = (rowOf i).1 := by
  have hop := opcodeOf_lt i
  cases i with
  | gfGen n k =>
    simp [HasFields, rowOf, maskOf, operandsOf, matches_F2_iff w hop, commandsWith, eq_comm (a := n), eq_comm (a := k),
      and_left_comm, and_assoc]
  | rsEcc b | rsSynd b =>
    simp [HasFields, rowOf, maskOf, operandsOf, matches_F1_iff w hop, commandsWith, eq_comm (a := b), and_left_comm]
  | _ => simp [HasFields, rowOf, maskOf, operandsOf, matches_F0_iff w hop, commandsWith]

/-- A word is illegal exactly when it has the fields of no command. -/
theorem illegal_iff (w : Word) : Illegal w ↔ ∀ i, ¬HasFields w i := by
  rw [Illegal, commandPatterns_eq_map_rowOf (a1Field w) (a2Field w), List.forall_mem_map]
  simp only [hasFields_iff_matches, not_and, ne_eq]

/-- The decoder refuses exactly the illegal words (R94). -/
theorem decode_error_iff_illegal (w : Word) : (∃ e, decode w = .error e) ↔ Illegal w :=
  (decode_error_iff w).trans (illegal_iff w).symm

/-- An illegal word is carried out as the error ILLEGAL_CMD (R94, R222). -/
theorem runWord_of_illegal {w : Word} (h : Illegal w) (s : State) : runWord w s = .next (s.fail .illegalCmd) := by
  obtain ⟨e, he⟩ := (decode_error_iff_illegal w).2 h
  simp [runWord, he]

/-! ### WAIT (R96) -/

/-- With BUSY = 0 the read of STATUS is the last one of the WAIT. -/
theorem serve_wait_of_idle {s : State} (hr : s.running = none) : serve .wait s = { s with rdata := statusWord s } := by
  simp [serve, busy_of_idle hr]

/-- With BUSY = 1 the WAIT stays the host's next action. -/
theorem serve_wait_of_busy {s : State} (hb : s.busy = true) :
    serve .wait s = { s with rdata := statusWord s, script := .wait :: s.script } := by
  simp [serve, hb]

/-! ### The obligations -/

/-- Settles O1: the encoding of a well-formed command has its fields, so it decodes to it. -/
theorem decodeEncodeRoundTrip : Obligations.DecodeEncodeRoundTrip :=
  fun _ h => decode_of_hasFields (hasFields_encode h)

/-- Settles O2: a word that decodes has the command's fields, and these are all of its bits. -/
theorem decodedWordIsItsEncoding : Obligations.DecodedWordIsItsEncoding :=
  fun _ _ h => ⟨(hasFields_of_decode h).wellFormed, (hasFields_of_decode h).encode_eq⟩

/-- Settles O3: the refused words are those of no row, and a command about to end is carried out. -/
theorem illegalWordsRaiseIllegalCmd : Obligations.IllegalWordsRaiseIllegalCmd :=
  ⟨decode_error_iff_illegal, fun s _ hr hw h => (step_ends hr hw).trans (runWord_of_illegal h s)⟩

/-- Settles O4: each legal word is an encoding, each illegal one is refused by the decoder. -/
theorem workedEncodings : Obligations.WorkedEncodings := by
  refine ⟨decodeEncodeRoundTrip .gfMul rfl, decodeEncodeRoundTrip (.rsEcc 3) rfl, decodeEncodeRoundTrip (.rsSynd 0) rfl,
    decodeEncodeRoundTrip (.gfGen 7 1) rfl, decodeEncodeRoundTrip .qrEncode rfl, rfl, rfl, ?_, ?_, ?_⟩ <;>
    exact (decode_error_iff_illegal _).1 ⟨_, rfl⟩

/-- Settles O26: the step serves the WAIT, on a state with the same STATUS. -/
theorem waitReadsStatusUntilIdle : Obligations.WaitReadsStatusUntilIdle := by
  refine ⟨fun s rest hr hs => ?idle, fun s r rest hr hw hs => ?busy⟩
  case idle =>
    exact (step_idle hr hs).trans (congrArg _ (serve_wait_of_idle (s := { s with script := rest }) hr))
  case busy =>
    have hstatus : statusWord { s with script := rest, running := some ⟨r.word, r.wait - 1⟩ } = statusWord s :=
      statusWord_congr rfl (by simp [State.busy, hr])
    rw [step_served hr hw hs, serve_wait_of_busy rfl, hstatus, ← hs]

end Sys2Proof.Proofs
end

section
/-! SUPPORT. GF(256) (40_gf.md). The product of bytes as polynomials is additive in each operand and multiplies powers of α by
adding exponents; the tables EXP and LOG hold the powers of α and their exponents; so `gfMul` is that product, and the laws
of the field are those of exponents. Then polynomials over GF(256), and the commands. -/

namespace Sys2Proof.Proofs

open Sys2Proof Sys2Proof.Machine Sys2Proof.Claims Sys2Proof.Safety Sys2Proof.Laws

/-! ### Sums of bytes (R114) -/

theorem xor_interchange (a b c d : Byte) : (a ^^^ b) ^^^ (c ^^^ d) = (a ^^^ c) ^^^ (b ^^^ d) := by ac_rfl

/-- A summand under the sum of two bits is the sum of that summand under each. -/
theorem ite_bit_xor (x y : Bool) (c : Byte) :
    (if x ^^ y then c else 0#8) = (if x then c else 0#8) ^^^ (if y then c else 0#8) := by
  cases x <;> cases y <;> simp

/-! ### The product with x (R110) -/

theorem timesX_eq_shift_xor (a : Byte) : timesX a = (a <<< 1) ^^^ if a.getLsbD 7 then 0x1D#8 else 0#8 := by
  rw [timesX]
  split_ifs <;> simp

theorem timesX_xor (a b : Byte) : timesX (a ^^^ b) = timesX a ^^^ timesX b := by
  simp only [timesX_eq_shift_xor, BitVec.shiftLeft_xor_distrib, BitVec.getLsbD_xor, ite_bit_xor]
  exact xor_interchange ..

/-! ### The product of polynomials over GF(2), reduced (R110, R113) -/

/-- One turn of `polyProduct`: the coefficient of x^i of `b`, by Horner's rule. -/
def productStep (a b acc : Byte) (i : Nat) : Byte := timesX acc ^^^ if b.getLsbD i then a else 0#8

theorem polyProduct_eq_foldl (a b : Byte) :
    polyProduct a b = [7, 6, 5, 4, 3, 2, 1, 0].foldl (productStep a b) 0#8 := rfl

theorem polyProduct_xor_left (a a' b : Byte) : polyProduct (a ^^^ a') b = polyProduct a b ^^^ polyProduct a' b := by
  refine List.foldl_hom₂ _ (· ^^^ ·) (productStep a b) (productStep a' b) (productStep (a ^^^ a') b) 0#8 0#8 ?_
  intro x y i
  have hite : (if b.getLsbD i then a ^^^ a' else 0#8) =
      (if b.getLsbD i then a else 0#8) ^^^ (if b.getLsbD i then a' else 0#8) := by
    split_ifs <;> simp
  simp only [productStep, hite, timesX_xor]
  exact xor_interchange ..

theorem polyProduct_xor_right (a b b' : Byte) : polyProduct a (b ^^^ b') = polyProduct a b ^^^ polyProduct a b' := by
  refine List.foldl_hom₂ _ (· ^^^ ·) (productStep a b) (productStep a b') (productStep a (b ^^^ b')) 0#8 0#8 ?_
  intro x y i
  simp only [productStep, BitVec.getLsbD_xor, ite_bit_xor, timesX_xor]
  exact xor_interchange ..

@[simp] theorem polyProduct_zero_left (b : Byte) : polyProduct 0#8 b = 0#8 := by
  simpa using polyProduct_xor_left b b b

@[simp] theorem polyProduct_zero_right (a : Byte) : polyProduct a 0#8 = 0#8 := by
  simpa using polyProduct_xor_right a a a

/-- The sum of the x^i at which `b` has a bit is `b`. -/
@[simp] theorem polyProduct_one_left : ∀ b : Byte, polyProduct 1#8 b = b := by decide +kernel

theorem polyProduct_timesX_left (a b : Byte) : polyProduct (timesX a) b = timesX (polyProduct a b) := by
  refine List.foldl_hom timesX (g₁ := productStep a b) (g₂ := productStep (timesX a) b) (init := 0#8) fun acc i => ?_
  have hite : (if b.getLsbD i then timesX a else 0#8) = timesX (if b.getLsbD i then a else 0#8) := by
    split_ifs <;> rfl
  rw [productStep, productStep, hite, timesX_xor]

/-- α^m ⊗ α^n = α^(m+n). -/
theorem polyProduct_alphaPower (m n : Nat) :
    polyProduct (alphaPower m) (alphaPower n) = alphaPower (m + n) := by
  induction m with
  | zero => rw [alphaPower, polyProduct_one_left, Nat.zero_add]
  | succ m ih => rw [alphaPower, polyProduct_timesX_left, ih, Nat.succ_add, alphaPower]

/-! ### The tables EXP and LOG (R111, R112) -/

/-- EXP begins with 1, and each entry is α times the one before. -/
theorem expOf_succ : ∀ e < 255, expOf (e + 1) = timesX (expOf e) := by decide +kernel

/-- LOG inverts EXP. -/
theorem logOf_expOf : ∀ e < 255, logOf (expOf e) = some e := by decide +kernel

/-- EXP inverts LOG. -/
theorem expOf_of_mem_logOf : ∀ a : Byte, ∀ e ∈ logOf a, e < 255 ∧ expOf e = a := by decide +kernel

theorem expOf_eq_alphaPower {e : Nat} (h : e ≤ 255) : expOf e = alphaPower e := by
  induction e with
  | zero => rfl
  | succ e ih => rw [expOf_succ e h, ih (Nat.le_of_succ_le h), alphaPower]

theorem logOf_alphaPower {e : Nat} (h : e < 255) : logOf (alphaPower e) = some e := by
  rw [← expOf_eq_alphaPower h.le, logOf_expOf e h]

@[simp] theorem logOf_zero : logOf 0#8 = none := rfl

/-- Every byte but 0 is a power of α. -/
theorem exists_alphaPower {a : Byte} (h : a ≠ 0#8) : ∃ e < 255, alphaPower e = a := by
  obtain ⟨he, hexp⟩ := expOf_of_mem_logOf a _ (if_neg h)
  exact ⟨_, he, by rw [← expOf_eq_alphaPower he.le, hexp]⟩

theorem eq_zero_or_alphaPower (a : Byte) : a = 0#8 ∨ ∃ e < 255, alphaPower e = a :=
  or_iff_not_imp_left.2 exists_alphaPower

/-- The powers of α below α^255 are distinct. -/
theorem alphaPower_inj {e e' : Nat} (h : e < 255) (h' : e' < 255) (heq : alphaPower e = alphaPower e') : e = e' := by
  simpa only [logOf_alphaPower, h, h', Option.some.injEq] using congrArg logOf heq

theorem alphaPower_ne_zero {e : Nat} (h : e < 255) : alphaPower e ≠ 0#8 := by
  intro hzero
  simpa [hzero] using logOf_alphaPower h

/-- The order of α is 255 (R111). -/
theorem alphaPower_255 : alphaPower 255 = 1#8 := (expOf_eq_alphaPower le_rfl).symm

theorem alphaPower_add_255 (e : Nat) : alphaPower (e + 255) = alphaPower e := by
  rw [Nat.add_comm, ← polyProduct_alphaPower, alphaPower_255, polyProduct_one_left]

theorem alphaPower_mod (e : Nat) : alphaPower (e % 255) = alphaPower e :=
  Function.Periodic.map_mod_nat alphaPower_add_255 e

theorem expOf_mod (e : Nat) : expOf (e % 255) = alphaPower e := by
  rw [expOf_eq_alphaPower (Nat.mod_lt e (by decide)).le, alphaPower_mod]

/-! ### The field (R113, R123) -/

/-- The product by the tables is the product of polynomials. -/
theorem gfMul_eq_polyProduct (a b : Byte) : gfMul a b = polyProduct a b := by
  rcases eq_zero_or_alphaPower a with rfl | ⟨x, hx, rfl⟩
  · rw [gfMul, logOf_zero, polyProduct_zero_left]
  rcases eq_zero_or_alphaPower b with rfl | ⟨y, hy, rfl⟩
  · rw [gfMul, logOf_alphaPower hx, logOf_zero, polyProduct_zero_right]
  · rw [gfMul, logOf_alphaPower hx, logOf_alphaPower hy, polyProduct_alphaPower]
    exact expOf_mod (x + y)

theorem polyProduct_comm (a b : Byte) : polyProduct a b = polyProduct b a := by
  rcases eq_zero_or_alphaPower a with rfl | ⟨x, -, rfl⟩
  · rw [polyProduct_zero_left, polyProduct_zero_right]
  rcases eq_zero_or_alphaPower b with rfl | ⟨y, -, rfl⟩
  · rw [polyProduct_zero_left, polyProduct_zero_right]
  · rw [polyProduct_alphaPower, polyProduct_alphaPower, Nat.add_comm]

theorem polyProduct_assoc (a b c : Byte) : polyProduct (polyProduct a b) c = polyProduct a (polyProduct b c) := by
  rcases eq_zero_or_alphaPower a with rfl | ⟨x, -, rfl⟩
  · simp
  rcases eq_zero_or_alphaPower b with rfl | ⟨y, -, rfl⟩
  · simp
  rcases eq_zero_or_alphaPower c with rfl | ⟨z, -, rfl⟩
  · simp
  · simp only [polyProduct_alphaPower, Nat.add_assoc]

/-- The inverse of α^e is α^(255−e). -/
theorem polyProduct_alphaPower_inverse {e : Nat} (h : e < 255) :
    polyProduct (alphaPower e) (expOf ((255 - e) % 255)) = 1#8 := by
  rw [expOf_mod, polyProduct_alphaPower, Nat.add_sub_cancel' h.le, alphaPower_255]

/-! ### Polynomials over GF(256) (R115) -/

theorem polyValue_append_singleton (p : List Byte) (c x : Byte) :
    polyValue (p ++ [c]) x = polyProduct (polyValue p x) x ^^^ c := by
  simp [polyValue]

theorem polyValue_zero_cons (p : List Byte) (x : Byte) : polyValue (0#8 :: p) x = polyValue p x := by
  simp [polyValue]

theorem polyValue_map_polyProduct (r : Byte) (p : List Byte) (x : Byte) :
    polyValue (p.map (polyProduct r)) x = polyProduct r (polyValue p x) := by
  rw [polyValue, polyValue, List.foldl_map, ← List.foldl_hom (polyProduct r), polyProduct_zero_right]
  intro acc c
  rw [polyProduct_xor_right, polyProduct_assoc]

/-- The value of a sum, the coefficients given as pairs. -/
theorem polyValue_map_gfAdd (l : List (Byte × Byte)) (x : Byte) :
    polyValue (l.map fun c => gfAdd c.1 c.2) x = polyValue (l.map Prod.fst) x ^^^ polyValue (l.map Prod.snd) x := by
  simp only [polyValue, List.foldl_map]
  refine List.foldl_hom₂ l (· ^^^ ·) _ _ _ 0#8 0#8 fun acc acc' c => ?_
  rw [polyProduct_xor_left, gfAdd]
  exact xor_interchange ..

theorem polyValue_zipWith_gfAdd {p q : List Byte} (h : p.length = q.length) (x : Byte) :
    polyValue (List.zipWith gfAdd p q) x = polyValue p x ^^^ polyValue q x := by
  have hsum := polyValue_map_gfAdd (p.zip q) x
  rwa [List.map_fst_zip h.le, List.map_snd_zip h.ge, List.map_zip_eq_zipWith] at hsum

/-- `mulByRoot p root` is p(x)·(x ⊕ root). -/
theorem polyValue_mulByRoot (p : List Byte) (root x : Byte) :
    polyValue (mulByRoot p root) x = polyProduct (polyValue p x) (x ^^^ root) := by
  have hmul : gfMul root = polyProduct root := funext (gfMul_eq_polyProduct root)
  rw [mulByRoot, polyValue_zipWith_gfAdd (by simp), polyValue_append_singleton, polyValue_zero_cons, hmul,
    polyValue_map_polyProduct, polyProduct_comm root, polyProduct_xor_right, BitVec.xor_zero]

/-- The product with a monic factor keeps the leading coefficient. -/
theorem mulByRoot_head {p : List Byte} (h : p ≠ []) (root : Byte) : (mulByRoot p root).getD 0 0#8 = p.getD 0 0#8 := by
  cases p with
  | nil => contradiction
  | cons c p => simp [mulByRoot, gfAdd]

theorem genPoly_ne_nil (n : Nat) : genPoly n ≠ [] :=
  List.ne_nil_of_length_eq_add_one (length_genPoly n)

/-- GEN[n] is monic. -/
theorem genPoly_monic (n : Nat) : (genPoly n).getD 0 0#8 = 1#8 := by
  induction n with
  | zero => rfl
  | succ n ih => rw [genPoly, mulByRoot_head (genPoly_ne_nil n), ih]

/-- GEN[n] vanishes at α^0 .. α^(n−1): at the last by its last factor, at the others by the factors before. -/
theorem polyValue_genPoly {n i : Nat} (h : i < n) : polyValue (genPoly n) (alphaPower i) = 0#8 := by
  induction n with
  | zero => contradiction
  | succ n ih =>
    rw [genPoly, polyValue_mulByRoot, expOf_mod]
    rcases Nat.lt_succ_iff_lt_or_eq.1 h with hlt | rfl
    · rw [ih hlt, polyProduct_zero_left]
    · rw [BitVec.xor_self, polyProduct_zero_right]

/-! ### The commands (R117 to R122) -/

theorem exec_nop (s : State) : exec .nop s = .next s.finish := rfl
theorem exec_gfAdd (s : State) : exec .gfAdd s = .next (s.setResult (s.opa ^^^ s.opb)).finish := rfl
theorem exec_gfMul (s : State) : exec .gfMul s = .next (s.setResult (gfMul s.opa s.opb)).finish := rfl
theorem exec_gfExp (s : State) : exec .gfExp s = .next (s.setResult (expOf s.opa.toNat)).finish := rfl

/-- GF_LOG of 0 is the error LOG_ZERO. -/
theorem exec_gfLog_of_zero {s : State} (h : s.opa = 0) : exec .gfLog s = .next (s.fail .logZero) := by
  change execGfLog s = _
  simp [execGfLog, operandA, h]

theorem exec_gfLog_of_some {s : State} {e : Nat} (h : logOf s.opa = some e) :
    exec .gfLog s = .next (s.setResult (BitVec.ofNat 8 e)).finish := by
  change execGfLog s = _
  simp [execGfLog, operandA, h]

/-- GF_GEN outside its range is the error BAD_ARG. -/
theorem exec_gfGen_of_bad {n k : Nat} (h : n = 0 ∨ n > 30 ∨ k > n) (s : State) :
    exec (.gfGen n k) s = .next (s.fail .badArg) :=
  if_pos h

theorem exec_gfGen_of_good {n k : Nat} (h : ¬(n = 0 ∨ n > 30 ∨ k > n)) (s : State) :
    exec (.gfGen n k) s = .next (s.setResult (genCoeff n k)).finish :=
  if_neg h

/-! ### The obligations -/

/-- Settles O30: the product by the tables is the product of polynomials. -/
theorem gfMulIsPolynomialProduct : Obligations.GfMulIsPolynomialProduct := by
  intro s
  rw [exec_gfMul, gfMul_eq_polyProduct]
  rfl

/-- Settles O31: OPA is α^e for one e below 255, and LOG[α^e] = e. -/
theorem gfLogIsDiscreteLogarithm : Obligations.GfLogIsDiscreteLogarithm := by
  refine fun s => ⟨fun h => ?nonzero, fun h => exec_gfLog_of_zero h⟩
  obtain ⟨e, he, hpow⟩ := exists_alphaPower h
  refine ⟨e, Nat.le_of_lt_succ he, hpow, fun e' he' hpow' => ?unique, ?answer⟩
  case unique => exact alphaPower_inj (Nat.lt_succ_of_le he') he (hpow'.trans hpow.symm)
  case answer => exact exec_gfLog_of_some (hpow ▸ logOf_alphaPower he)

/-- Settles O32: EXP holds α^e up to e = 255, and α^255 = α^0. -/
theorem gfExpIsPowerOfAlpha : Obligations.GfExpIsPowerOfAlpha := by
  refine fun s => ⟨alphaPower_ne_zero (Nat.mod_lt _ (by decide)), ?_⟩
  rw [exec_gfExp, expOf_eq_alphaPower (Nat.le_of_lt_succ s.opa.isLt), alphaPower_mod]
  rfl

/-- Settles O33: the polynomial is GEN[n]. -/
theorem gfGenIsGeneratorPolynomial : Obligations.GfGenIsGeneratorPolynomial := by
  refine ⟨fun n hpos hmax => ?_, fun s n k hbad => exec_gfGen_of_bad hbad s⟩
  exact ⟨genPoly n, length_genPoly n, genPoly_monic n, fun i hi => polyValue_genPoly hi,
    fun s k hk => exec_gfGen_of_good (by omega) s⟩

/-- Settles O34: the product is that of polynomials, hence distributive, and adds exponents of α. -/
theorem fieldLaws : Obligations.FieldLaws := by
  simp only [Obligations.FieldLaws, gfMul_eq_polyProduct]
  refine ⟨polyProduct_comm, polyProduct_assoc, polyProduct_xor_right, BitVec.xor_comm, BitVec.xor_assoc,
    fun a => ⟨BitVec.xor_zero, BitVec.xor_self, polyProduct_zero_right a, polyProduct_one_left a⟩,
    fun a ha => ?inverse, fun e he => logOf_expOf e (Nat.lt_succ_of_le he)⟩
  case inverse =>
    obtain ⟨e, he, rfl⟩ := exists_alphaPower ha
    exact ⟨e, logOf_alphaPower he, expOf_eq_alphaPower he.le, polyProduct_alphaPower_inverse he⟩

/-- Settles O28: NOP ends at once, as a command that succeeds. -/
theorem nopOnlySignalsDone : Obligations.NopOnlySignalsDone := exec_nop

/-- Settles O29: the sum of the operands is their exclusive OR. -/
theorem gfAddXorsOperands : Obligations.GfAddXorsOperands := exec_gfAdd

end Sys2Proof.Proofs
end

section
/-! SUPPORT. Reed-Solomon (41_rs.md). How the blocks lie in DATA; the remainder as the register that keeps "what was taken in,
followed by the register, vanishes at every root of the generator"; a syndrome as the value at a root; where the bytes of each
command go; and what RS_SYND finds after a command that encodes. -/

namespace Sys2Proof.Proofs

open Sys2Proof Sys2Proof.Machine Sys2Proof.Claims Sys2Proof.Safety Sys2Proof.Laws

/-! ### The blocks of DATA (R131) -/

theorem start_zero (g : Geometry) : g.start 0 = 0 := by
  rw [Geometry.start, Nat.zero_mul, Nat.zero_sub]

/-- Each block starts where the one before ends. -/
theorem start_succ (g : Geometry) (b : Nat) : g.start (b + 1) = g.start b + g.len b := by
  rw [Geometry.start, Geometry.start, Geometry.len, Nat.succ_mul]
  split_ifs <;> omega

theorem nlong_lt_blocks {g : Geometry} (hpos : 0 < g.blocks) : g.nlong < g.blocks := Nat.mod_lt _ hpos

/-- D = SHORT·B + NLONG. -/
theorem short_mul_add_nlong (g : Geometry) : g.short * g.blocks + g.nlong = g.data := by
  rw [Nat.mul_comm]
  exact Nat.div_add_mod _ _

/-- The last block ends at D. -/
theorem start_blocks {g : Geometry} (hpos : 0 < g.blocks) : g.start g.blocks = g.data := by
  have hlong := nlong_lt_blocks hpos
  rw [Geometry.start, Nat.sub_sub_self hlong.le, Nat.mul_comm, short_mul_add_nlong]

theorem short_lt_len_iff (g : Geometry) (b : Nat) : g.short < g.len b ↔ g.blocks - g.nlong ≤ b := by
  rw [Geometry.len]
  split_ifs <;> omega

theorem short_le_len (g : Geometry) (b : Nat) : g.short ≤ g.len b := Nat.le_add_right _ _

/-- Every block lies in DATA[0..D−1]. -/
theorem start_add_lt_data {g : Geometry} {b j : Nat} (hb : b < g.blocks) (hj : j < g.len b) : g.start b + j < g.data := by
  have hmono : Monotone g.start := monotone_nat_of_le_succ fun n => by
    rw [start_succ]
    exact Nat.le_add_right _ _
  have hend := hmono (Nat.succ_le_of_lt hb)
  rw [Nat.succ_eq_add_one, start_succ, start_blocks (Nat.zero_lt_of_lt hb)] at hend
  omega

/-! ### The remainder (R133, R134) -/

/-- The value of a sequence is that of its second part, with the value of the first as one more leading coefficient. -/
theorem polyValue_append (p q : List Byte) (x : Byte) : polyValue (p ++ q) x = polyValue (polyValue p x :: q) x := by
  simp [polyValue]

theorem polyValue_replicate_zero (n : Nat) (x : Byte) : polyValue (List.replicate n 0#8) x = 0#8 := by
  induction n with
  | zero => rfl
  | succ n ih => rw [List.replicate_succ, polyValue_zero_cons, ih]

/-- GEN[n] is its leading 1 and the coefficients that `remainderStep` takes. -/
theorem genPoly_eq_cons (n : Nat) : genPoly n = 1#8 :: (genPoly n).tail := by
  have hmonic := genPoly_monic n
  cases h : genPoly n with
  | nil => exact absurd h (genPoly_ne_nil n)
  | cons c p => rw [h] at hmonic; rw [List.tail_cons, ← hmonic]; rfl

theorem polyProduct_one_right (a : Byte) : polyProduct a 1#8 = a := by
  rw [polyProduct_comm, polyProduct_one_left]

/-- A turn of the register, the codeword `y ⊕ m` before it: the register moved up by one place behind `y ⊕ r`, plus the
multiple of the generator that brings this first place back. -/
theorem cons_remainderStep (g rs : List Byte) (y r m : Byte) :
    (y ^^^ m) :: remainderStep g (r :: rs) m =
      List.zipWith gfAdd ((y ^^^ r) :: rs ++ [0#8]) ((1#8 :: g).map (polyProduct (gfAdd m r))) := by
  have hhead : y ^^^ m = gfAdd (y ^^^ r) (polyProduct (gfAdd m r) 1#8) := by
    rw [polyProduct_one_right, gfAdd, gfAdd, BitVec.xor_comm m r, BitVec.xor_assoc, ← BitVec.xor_assoc r r m,
      BitVec.xor_self, BitVec.zero_xor]
  have htail : remainderStep g (r :: rs) m = List.zipWith gfAdd (rs ++ [0#8]) (g.map (polyProduct (gfAdd m r))) := by
    rw [List.zipWith_map_right]
    simp only [remainderStep, List.headD_cons, List.tail_cons, gfMul_eq_polyProduct, polyProduct_comm (gfAdd m r)]
  rw [hhead, htail]
  rfl

/-- At a root of the generator, taking in a codeword multiplies the value of what was taken in, followed by the register,
by x. -/
theorem polyValue_append_remainderStep {g rem : List Byte} {x : Byte} (hroot : polyValue (1#8 :: g) x = 0#8)
    (hlen : g.length = rem.length) (p : List Byte) (m : Byte) :
    polyValue ((p ++ [m]) ++ remainderStep g rem m) x = polyProduct (polyValue (p ++ rem) x) x := by
  cases rem with
  | nil =>
    rw [List.eq_nil_of_length_eq_zero hlen] at hroot
    simp [polyValue] at hroot
  | cons r rs =>
    have hmoved : polyValue (p ++ r :: rs) x = polyValue ((polyProduct (polyValue p x) x ^^^ r) :: rs) x := by
      rw [← polyValue_append_singleton, ← polyValue_append, List.append_cons]
    rw [polyValue_append, polyValue_append_singleton, cons_remainderStep, polyValue_zipWith_gfAdd (by simpa using hlen.symm),
      polyValue_map_polyProduct, hroot, polyProduct_zero_right, BitVec.xor_zero, polyValue_append_singleton,
      BitVec.xor_zero, hmoved]

/-- The register starts at zeros, and each codeword taken in keeps the value at a root at 0. -/
theorem polyValue_append_rsRemainder (m : List Byte) {E i : Nat} (hi : i < E) :
    polyValue (m ++ rsRemainder m E) (alphaPower i) = 0#8 := by
  have hroot : polyValue (1#8 :: (genPoly E).tail) (alphaPower i) = 0#8 := by
    rw [← genPoly_eq_cons]
    exact polyValue_genPoly hi
  induction m using List.reverseRecOn with
  | nil => exact polyValue_replicate_zero E _
  | append_singleton m c ih =>
    have hstep : rsRemainder (m ++ [c]) E = remainderStep (genPoly E).tail (rsRemainder m E) c := by
      rw [rsRemainder, List.foldl_append]
      rfl
    rw [hstep, polyValue_append_remainderStep hroot (by simp), ih, polyProduct_zero_left]

/-! ### The syndromes (R141, R142) -/

/-- The term of c[j] in S_i. -/
def syndromeTerm (c : List Byte) (i j : Nat) : Byte :=
  gfMul (c.getD j 0#8) (expOf (i * (c.length - 1 - j) % 255))

theorem syndrome_eq_foldl (c : List Byte) (i : Nat) :
    syndrome c i = ((List.range c.length).map (syndromeTerm c i)).foldl gfAdd 0#8 := rfl

/-- One more codeword raises the power of the root in each term before it by one. -/
theorem syndromeTerm_append_singleton {c : List Byte} {j : Nat} (hj : j < c.length) (a : Byte) (i : Nat) :
    syndromeTerm (c ++ [a]) i j = polyProduct (syndromeTerm c i j) (alphaPower i) := by
  have hexp : i * ((c ++ [a]).length - 1 - j) = i * (c.length - 1 - j) + i := by
    rw [← Nat.mul_succ, List.length_append, List.length_singleton]
    congr 1
    omega
  rw [syndromeTerm, syndromeTerm, List.getD_append _ _ _ _ hj, gfMul_eq_polyProduct, gfMul_eq_polyProduct, expOf_mod,
    expOf_mod, polyProduct_assoc, polyProduct_alphaPower, hexp]

/-- The last codeword is its own term. -/
theorem syndromeTerm_last (c : List Byte) (a : Byte) (i : Nat) : syndromeTerm (c ++ [a]) i c.length = a := by
  have hone : expOf 0 = 1#8 := rfl
  simp [syndromeTerm, gfMul_eq_polyProduct, hone, polyProduct_one_right]

theorem foldl_gfAdd_map_polyProduct (l : List Byte) (x : Byte) :
    (l.map (polyProduct · x)).foldl gfAdd 0#8 = polyProduct (l.foldl gfAdd 0#8) x := by
  rw [List.foldl_map, ← List.foldl_hom (polyProduct · x), polyProduct_zero_left]
  intro acc a
  exact (polyProduct_xor_left acc a x).symm

/-- S_i is the value at α^i, by Horner's rule. -/
theorem syndrome_eq_polyValue (c : List Byte) (i : Nat) : syndrome c i = polyValue c (alphaPower i) := by
  induction c using List.reverseRecOn with
  | nil => rfl
  | append_singleton c a ih =>
    have hinit : (List.range c.length).map (syndromeTerm (c ++ [a]) i) =
        ((List.range c.length).map (syndromeTerm c i)).map (polyProduct · (alphaPower i)) := by
      rw [List.map_map]
      exact List.map_congr_left fun j hj => syndromeTerm_append_singleton (List.mem_range.1 hj) a i
    rw [polyValue_append_singleton, ← ih, syndrome_eq_foldl, List.length_append, List.length_singleton, List.range_succ,
      List.map_append, List.foldl_append, List.map_singleton, syndromeTerm_last, hinit, foldl_gfAdd_map_polyProduct]
    rfl

theorem syndromes_getElem? (c : List Byte) (E : Nat) {i : Nat} (hi : i < 32) :
    (syndromes c E)[i]? = some (if i < E then polyValue c (alphaPower i) else 0#8) := by
  simp [syndromes, hi, syndrome_eq_polyValue]

/-- SYNZ tells whether all E syndromes are 0. -/
theorem syndBody_synz_iff {g : Geometry} (hg : GeometryBounds g) (b : Nat) (s : State) :
    (syndBody g b s).status.synz = true ↔
      ∀ i < g.ecc, polyValue (dataBlock s g b ++ eccBlock s g b) (alphaPower i) = 0#8 := by
  have htake (c : List Byte) : (syndromes c g.ecc).take g.ecc =
      (List.range g.ecc).map fun i => polyValue c (alphaPower i) := by
    have hle := hg.ecc_le
    refine List.ext_getElem? fun i => ?_
    rcases Nat.lt_or_ge i g.ecc with hi | hi
    · rw [List.getElem?_take_of_lt hi, syndromes_getElem? c g.ecc (by omega)]
      simp [hi]
    · simp [hi]
  simp [syndBody, htake]

/-! ### Bytes written in a row -/

theorem lookup_storeBytes_add (m : Memory) (a : Nat) {k : Nat} {vs : List Byte} (hk : k < vs.length) :
    (m.storeBytes a vs).lookup (a + k) = vs[k]? := by
  rw [lookup_storeBytes, if_pos ⟨by omega, by omega⟩, Nat.add_sub_cancel_left]

theorem lookup_storeBytes_outside (m : Memory) {a x : Nat} {vs : List Byte} (hx : ¬(a ≤ x ∧ x < a + vs.length)) :
    (m.storeBytes a vs).lookup x = m.lookup x := by
  rw [lookup_storeBytes, if_neg hx]

/-! ### Blocks as they lie in the buffers (R131, R132) -/

theorem blockIsInData (s : State) (g : Geometry) (b : Nat) : BlockIsInData s g b := by
  refine ⟨dataBlock_length s g b, fun j hj x hx => ?_⟩
  rw [dataBlock_getElem? s g hj]
  exact congrArg some (readByte_of_lookup hx)

theorem blockIsInEcc (s : State) (g : Geometry) (b : Nat) : BlockIsInEcc s g b := by
  refine ⟨eccBlock_length s g b, fun i hi x hx => ?_⟩
  rw [eccBlock_getElem? s g hi]
  exact congrArg some (readByte_of_lookup hx)

/-- A block whose bytes have been written reads the same in every state that holds the same bytes. -/
theorem dataBlock_congr {s u : State} {g : Geometry} {b : Nat} (hw : DataWritten s g b)
    (hsame : ∀ j < g.len b, u.mem.lookup (dataBase + (g.start b + j)) = s.mem.lookup (dataBase + (g.start b + j))) :
    dataBlock u g b = dataBlock s g b := by
  refine List.map_congr_left fun j hj => ?_
  obtain ⟨x, hx⟩ := Option.isSome_iff_exists.1 (hw j (List.mem_range.1 hj))
  rw [readByte_of_lookup hx, readByte_of_lookup ((hsame j (List.mem_range.1 hj)).trans hx)]

/-- Where ECC holds `l` at the place of block `b`, `l` is the block's correction codewords. -/
theorem eccBlock_eq_of_lookup {u : State} {g : Geometry} {b : Nat} {l : List Byte} (hlen : l.length = g.ecc)
    (hl : ∀ j < g.ecc, u.mem.lookup (eccBase + (b * g.ecc + j)) = l[j]?) : eccBlock u g b = l := by
  refine List.ext_getElem (by rw [eccBlock_length, hlen]) fun j hj hj' => ?_
  rw [← Option.some_inj, ← List.getElem?_eq_getElem hj, eccBlock_getElem? u g (hlen ▸ hj')]
  exact congrArg some (readByte_of_lookup ((hl j (hlen ▸ hj')).trans (List.getElem?_eq_getElem hj')))

/-! ### What the commands that encode leave in ECC (R136, R137) -/

section
variable (s : State) (g : Geometry) (m : Memory)

theorem lookup_storeEcc_same (b : Nat) {i : Nat} (hi : i < g.ecc) :
    (storeEcc s g m b).lookup (eccBase + (b * g.ecc + i)) = (rsRemainder (dataBlock s g b) g.ecc)[i]? := by
  rw [← Nat.add_assoc]
  exact lookup_storeBytes_add _ _ (by rwa [length_rsRemainder])

theorem lookup_storeEcc_outside (b : Nat) {a : Nat} (ha : ¬(eccBase + b * g.ecc ≤ a ∧ a < eccBase + b * g.ecc + g.ecc)) :
    (storeEcc s g m b).lookup a = m.lookup a :=
  lookup_storeBytes_outside _ (by rwa [length_rsRemainder])

/-- The first `n` blocks leave all other bytes alone. -/
theorem lookup_foldl_storeEcc_outside (n : Nat) {a : Nat} (ha : ¬(eccBase ≤ a ∧ a < eccBase + n * g.ecc)) :
    ((List.range n).foldl (storeEcc s g) m).lookup a = m.lookup a := by
  induction n with
  | zero => rfl
  | succ n ih =>
    rw [Nat.succ_mul] at ha
    rw [List.range_succ, List.foldl_append, List.foldl_cons, List.foldl_nil, lookup_storeEcc_outside _ _ _ _ (by omega),
      ih (by omega)]

/-- Of the first `n` blocks, no later one writes over an earlier one. -/
theorem lookup_foldl_storeEcc {n b i : Nat} (hb : b < n) (hi : i < g.ecc) :
    ((List.range n).foldl (storeEcc s g) m).lookup (eccBase + (b * g.ecc + i)) =
      (rsRemainder (dataBlock s g b) g.ecc)[i]? := by
  induction n with
  | zero => contradiction
  | succ n ih =>
    rw [List.range_succ, List.foldl_append, List.foldl_cons, List.foldl_nil]
    rcases Nat.lt_succ_iff_lt_or_eq.1 hb with hlt | rfl
    · have hbefore : (b + 1) * g.ecc ≤ n * g.ecc := Nat.mul_le_mul_right _ hlt
      rw [Nat.succ_mul] at hbefore
      rw [lookup_storeEcc_outside _ _ _ _ (by omega), ih hlt]
    · exact lookup_storeEcc_same s g _ b hi

end

/-! ### The codeword sequence (R138) -/

/-- A table of `n` rows and `B` columns, row by row. -/
def rowByRow (n B : Nat) (f : Nat → Nat → Byte) : List Byte :=
  (List.range n).flatMap fun i => (List.range B).map (f i)

@[simp] theorem length_rowByRow (n B : Nat) (f : Nat → Nat → Byte) : (rowByRow n B f).length = n * B := by
  simp [rowByRow]

theorem rowByRow_succ (n B : Nat) (f : Nat → Nat → Byte) :
    rowByRow (n + 1) B f = rowByRow n B f ++ (List.range B).map (f n) := by
  simp [rowByRow, List.range_succ]

/-- A place in the first `n` rows of `B` columns. -/
theorem row_index_lt {n B i b : Nat} (hi : i < n) (hb : b < B) : i * B + b < n * B := by
  have hrow : (i + 1) * B ≤ n * B := Nat.mul_le_mul_right _ hi
  rw [Nat.succ_mul] at hrow
  omega

theorem rowByRow_getElem? {n B i b : Nat} (hi : i < n) (hb : b < B) (f : Nat → Nat → Byte) :
    (rowByRow n B f)[i * B + b]? = some (f i b) := by
  induction n with
  | zero => contradiction
  | succ n ih =>
    rw [rowByRow_succ]
    rcases Nat.lt_succ_iff_lt_or_eq.1 hi with hlt | rfl
    · rw [List.getElem?_append_left (by simpa using row_index_lt hlt hb), ih hlt]
    · rw [List.getElem?_append_right (by simp)]
      simp [hb]

/-- Codeword i of data block b, as a command reads it. -/
def dataByte (s : State) (g : Geometry) (i b : Nat) : Byte := readByte s 0 (dataBase + (g.start b + i))

/-- Correction codeword i of block b, as a command reads it. -/
def eccByte (s : State) (g : Geometry) (i b : Nat) : Byte := readByte s 0 (eccBase + (b * g.ecc + i))

/-- The last codewords of the long blocks. -/
def longTail (s : State) (g : Geometry) : List Byte :=
  (List.range g.nlong).map fun k => dataByte s g g.short (g.blocks - g.nlong + k)

theorem interleaveEcc_eq (s : State) (g : Geometry) : interleaveEcc s g = rowByRow g.ecc g.blocks (eccByte s g) := rfl

/-- The codewords of index i across the blocks that have one. -/
def dataRow (s : State) (g : Geometry) (i : Nat) : List Byte :=
  (List.range g.blocks).filterMap fun b => if i < g.len b then some (dataByte s g i b) else none

theorem interleaveData_eq_flatMap (s : State) (g : Geometry) : interleaveData s g =
    (List.range (g.short + if g.nlong > 0 then 1 else 0)).flatMap (dataRow s g) := rfl

/-- Below SHORT every block has a codeword. -/
theorem dataRow_of_lt_short (s : State) {g : Geometry} {i : Nat} (hi : i < g.short) :
    dataRow s g i = (List.range g.blocks).map (dataByte s g i) := by
  rw [dataRow, ← List.filterMap_eq_map]
  refine List.filterMap_congr fun b _ => ?_
  rw [if_pos (hi.trans_le (short_le_len g b))]
  rfl

/-- At SHORT only the long blocks have one. -/
theorem dataRow_short (s : State) {g : Geometry} (hpos : 0 < g.blocks) : dataRow s g g.short = longTail s g := by
  have hsplit : List.range g.blocks = List.range (g.blocks - g.nlong) ++
      (List.range g.nlong).map (g.blocks - g.nlong + ·) := by
    rw [← List.range_add, Nat.sub_add_cancel (nlong_lt_blocks hpos).le]
  have hshort : (List.range (g.blocks - g.nlong)).filterMap
      (fun b => if g.short < g.len b then some (dataByte s g g.short b) else none) = [] := by
    rw [List.filterMap_eq_nil_iff]
    intro b hb
    rw [if_neg]
    rw [short_lt_len_iff]
    exact Nat.not_le.2 (List.mem_range.1 hb)
  rw [dataRow, hsplit, List.filterMap_append, hshort, List.nil_append, List.filterMap_map, longTail,
    ← List.filterMap_eq_map]
  refine List.filterMap_congr fun k _ => ?_
  exact if_pos ((short_lt_len_iff ..).2 (Nat.le_add_right ..))

/-- The data part: SHORT full rows, then the last codewords of the long blocks. -/
theorem interleaveData_eq (s : State) {g : Geometry} (hpos : 0 < g.blocks) :
    interleaveData s g = rowByRow g.short g.blocks (dataByte s g) ++ longTail s g := by
  have hrows : (List.range g.short).flatMap (dataRow s g) = rowByRow g.short g.blocks (dataByte s g) :=
    List.flatMap_congr fun i hi => dataRow_of_lt_short s (List.mem_range.1 hi)
  rw [interleaveData_eq_flatMap, ← hrows]
  split_ifs with hlong
  · rw [List.range_succ, List.flatMap_append, List.flatMap_singleton, dataRow_short s hpos]
  · simp [longTail, Nat.eq_zero_of_not_pos hlong]

theorem length_longTail (s : State) (g : Geometry) : (longTail s g).length = g.nlong := by
  simp [longTail]

theorem length_interleaveData (s : State) {g : Geometry} (hpos : 0 < g.blocks) : (interleaveData s g).length = g.data := by
  rw [interleaveData_eq s hpos, List.length_append, length_rowByRow, length_longTail, short_mul_add_nlong]

section
variable {s : State} {g : Geometry} (hg : GeometryBounds g)
include hg

/-- The codeword sequence is T bytes long. -/
theorem length_interleaved : (interleaveData s g ++ interleaveEcc s g).length = g.total := by
  rw [List.length_append, length_interleaveData s hg.blocks_pos, length_interleaveEcc, Geometry.total, Nat.mul_comm g.ecc]

theorem interleaved_data {b i : Nat} (hb : b < g.blocks) (hi : i < g.short) :
    (interleaveData s g ++ interleaveEcc s g)[i * g.blocks + b]? = some (dataByte s g i b) := by
  have hlt := row_index_lt hi hb
  rw [interleaveData_eq s hg.blocks_pos, List.append_assoc, List.getElem?_append_left (by rwa [length_rowByRow]),
    rowByRow_getElem? hi hb]

theorem interleaved_long {b : Nat} (hb : b < g.blocks) (hlong : g.blocks - g.nlong ≤ b) :
    (interleaveData s g ++ interleaveEcc s g)[g.short * g.blocks + (b - (g.blocks - g.nlong))]? =
      some (dataByte s g g.short b) := by
  have hlt : b - (g.blocks - g.nlong) < g.nlong := by omega
  rw [interleaveData_eq s hg.blocks_pos, List.append_assoc, List.getElem?_append_right (by simp), length_rowByRow,
    Nat.add_sub_cancel_left, List.getElem?_append_left (by rwa [length_longTail])]
  simp [longTail, hlt, Nat.add_sub_cancel' hlong]

theorem interleaved_ecc {b i : Nat} (hb : b < g.blocks) (hi : i < g.ecc) :
    (interleaveData s g ++ interleaveEcc s g)[g.data + (i * g.blocks + b)]? = some (eccByte s g i b) := by
  rw [List.getElem?_append_right (by simp [length_interleaveData s hg.blocks_pos]), length_interleaveData s hg.blocks_pos,
    Nat.add_sub_cancel_left, interleaveEcc_eq, rowByRow_getElem? hi hb]

/-- Byte k of SEQ after RS_INTERLEAVE is codeword k of the sequence. -/
theorem lookup_interleaveBody {k : Nat} (hk : k < g.total) :
    (interleaveBody g s).mem.lookup (seqBase + k) = (interleaveData s g ++ interleaveEcc s g)[k]? :=
  lookup_storeBytes_add _ _ (by rwa [length_interleaved hg])

theorem lookup_interleaveBody_outside {a : Nat} (ha : ¬(seqBase ≤ a ∧ a < seqBase + g.total)) :
    (interleaveBody g s).mem.lookup a = s.mem.lookup a :=
  lookup_storeBytes_outside _ (by rwa [length_interleaved hg])

end

/-! ### The commands (R136 to R142) -/

section
variable {s : State} {g : Geometry} (h : geometry s.cfg = some g)
include h

theorem exec_rsEcc {b : Nat} (hb : b < g.blocks) : exec (.rsEcc b) s = .next (eccBody g b s).finish := by
  change execRsEcc b s = _
  rw [execRsEcc, withGeometry_some h, if_neg (Nat.not_le.2 hb), succeed_eq]

theorem exec_rsEccAll : exec .rsEccAll s = .next (eccAllBody g s).finish := withGeometry_some h _

theorem exec_rsInterleave : exec .rsInterleave s = .next (interleaveBody g s).finish := withGeometry_some h _

theorem exec_rsEncode : exec .rsEncode s = .next (interleaveBody g (eccAllBody g s)).finish := withGeometry_some h _

theorem exec_rsSynd {b : Nat} (hb : b < g.blocks) : exec (.rsSynd b) s = .next (syndBody g b s).finish := by
  change execRsSynd b s = _
  rw [execRsSynd, withGeometry_some h, if_neg (Nat.not_le.2 hb), succeed_eq]

end

/-- A command that only writes buffers keeps every register. -/
theorem endsDone_setMem (m : Memory) (s : State) : EndsDone s (s.setMem m).finish := by
  simp [EndsDone, KeepsRegisters]

/-- With one block, RS_ECC_ALL has the effect of RS_ECC 0. -/
theorem eccAllBody_of_one_block {g : Geometry} (h : g.blocks = 1) (s : State) : eccAllBody g s = eccBody g 0 s := by
  rw [eccAllBody, h]
  rfl

/-- The end of a command changes nothing that RS_INTERLEAVE reads. -/
theorem interleaveBody_finish (g : Geometry) (s : State) :
    (interleaveBody g s.finish).finish = (interleaveBody g s).finish := rfl

/-! ### What RS_SYND finds after a command that encodes (R143) -/

/-- `t` holds the DATA of `s`, and in ECC the correction codewords of block `b` of `s`. -/
def HoldsEncodedBlock (s t : State) (g : Geometry) (b : Nat) : Prop :=
  (∀ a < eccBase, t.mem.lookup a = s.mem.lookup a) ∧
    ∀ j < g.ecc, t.mem.lookup (eccBase + (b * g.ecc + j)) = (rsRemainder (dataBlock s g b) g.ecc)[j]?

section
variable {s : State} {g : Geometry} {b : Nat}

theorem holdsEncodedBlock_eccBody : HoldsEncodedBlock s (eccBody g b s) g b :=
  ⟨fun a ha => lookup_storeEcc_outside s g _ b (by omega), fun j hj => lookup_storeEcc_same s g _ b hj⟩

theorem holdsEncodedBlock_eccAllBody (hb : b < g.blocks) : HoldsEncodedBlock s (eccAllBody g s) g b :=
  ⟨fun a ha => lookup_foldl_storeEcc_outside s g _ _ (by omega), fun j hj => lookup_foldl_storeEcc s g _ hb hj⟩

/-- RS_ENCODE then writes SEQ, which lies above DATA and ECC. -/
theorem holdsEncodedBlock_encodeBody (hg : GeometryBounds g) (hb : b < g.blocks) :
    HoldsEncodedBlock s (interleaveBody g (eccAllBody g s)) g b := by
  obtain ⟨hdata, hecc⟩ := holdsEncodedBlock_eccAllBody (s := s) hb
  refine ⟨fun a ha => ?_, fun j hj => ?_⟩
  · rw [lookup_interleaveBody_outside hg, hdata a ha]
    rw [eccBase] at ha
    rw [seqBase]
    omega
  · rw [lookup_interleaveBody_outside hg, hecc j hj]
    have hlt := row_index_lt hb hj
    have hle := hg.eccs_le
    rw [eccBase, seqBase]
    omega

/-- Each of the three commands that encode block `b` leaves it encoded. -/
theorem holdsEncodedBlock_of_exec {i : Instr} {t : State} (h : geometry s.cfg = some g) (hb : b < g.blocks)
    (hi : i = .rsEcc b ∨ i = .rsEccAll ∨ i = .rsEncode) (ht : exec i s = .next t) : HoldsEncodedBlock s t g b := by
  rcases hi with rfl | rfl | rfl
  · rw [exec_rsEcc h hb] at ht
    cases ht
    exact holdsEncodedBlock_eccBody
  · rw [exec_rsEccAll h] at ht
    cases ht
    exact holdsEncodedBlock_eccAllBody hb
  · rw [exec_rsEncode h] at ht
    cases ht
    exact holdsEncodedBlock_encodeBody (bounds_of_geometry h) hb

/-- DATA ends where ECC begins. -/
theorem dataBase_add_lt_eccBase (hg : GeometryBounds g) (hb : b < g.blocks) {j : Nat} (hj : j < g.len b) :
    dataBase + (g.start b + j) < eccBase := by
  have hlt := start_add_lt_data hb hj
  have hle := hg.total_le
  rw [Geometry.total] at hle
  rw [dataBase, eccBase]
  omega

end

/-! ### The obligations -/

/-- Settles O35: the register keeps the value at each root at 0. -/
theorem remainderMakesACodeword : Obligations.RemainderMakesACodeword :=
  fun m E _ _ => ⟨length_rsRemainder m E, fun _ hi => polyValue_append_rsRemainder m hi⟩

/-- Settles O36: RS_ECC b is one write of the remainder's E bytes in a row. -/
theorem rsEccStoresOneRemainder : Obligations.RsEccStoresOneRemainder := fun s g b h hb =>
  ⟨blockIsInData s g b, _, exec_rsEcc h hb, fun _ hi => lookup_storeEcc_same s g _ b hi,
    fun _ ha => lookup_storeEcc_outside s g _ b ha, rfl, endsDone_setMem _ s⟩

/-- Settles O37: no block's correction codewords are written over by a later block's. -/
theorem rsEccAllStoresEveryRemainder : Obligations.RsEccAllStoresEveryRemainder := by
  refine fun s g h => ⟨fun b _ => blockIsInData s g b,
    ⟨_, exec_rsEccAll h, ?stored, ?kept, rfl, endsDone_setMem _ s⟩, ?one⟩
  case stored => exact fun b hb i hi => lookup_foldl_storeEcc s g _ hb hi
  case kept => exact fun a ha => lookup_foldl_storeEcc_outside s g _ _ ha
  case one =>
    intro hone
    rw [exec_rsEccAll h, exec_rsEcc h (by omega), eccAllBody_of_one_block hone]

/-- Settles O38: the sequence is SHORT full rows, the last codewords of the long blocks, and E full rows. -/
theorem interleavePositions : Obligations.InterleavePositions := by
  intro s g h
  have hg := bounds_of_geometry h
  have hdata := short_mul_add_nlong g
  have htotal : g.total = g.data + g.ecc * g.blocks := by rw [Geometry.total, Nat.mul_comm]
  refine ⟨_, exec_rsInterleave h, fun b hb i hi => ?data, fun b hb hlong => ?long, fun b hb i hi => ?ecc,
    fun a ha => lookup_interleaveBody_outside hg ha, rfl, endsDone_setMem _ s⟩
  case data =>
    have hlt := row_index_lt hi hb
    exact (lookup_interleaveBody hg (by omega)).trans (interleaved_data hg hb hi)
  case long => exact (lookup_interleaveBody hg (by omega)).trans (interleaved_long hg hb hlong)
  case ecc =>
    have hlt := row_index_lt hi hb
    exact (lookup_interleaveBody hg (by omega)).trans (interleaved_ecc hg hb hi)

/-- Settles O39: the end of RS_ECC_ALL changes nothing that RS_INTERLEAVE reads. -/
theorem rsEncodeIsEccAllThenInterleave : Obligations.RsEncodeIsEccAllThenInterleave := by
  intro s g h
  have ht : geometry (eccAllBody g s).finish.cfg = some g := by rwa [finish_cfg, eccAllBody_cfg]
  exact ⟨_, _, exec_rsEccAll h, exec_rsInterleave ht, by rw [exec_rsEncode h, interleaveBody_finish]⟩

/-- Settles O40: start(b+1) counts one byte more than SHORT exactly when block b is long, and D = SHORT·B + NLONG. -/
theorem blocksTileTheData : Obligations.BlocksTileTheData := by
  intro v l g h
  have hpos := (bounds_of_geometryOf h).blocks_pos
  refine ⟨start_zero g, fun b _ => start_succ g b, start_blocks hpos, fun b _ => ?_⟩
  rw [Geometry.len, Geometry.short, Geometry.nlong]
  split_ifs <;> omega

/-- Settles O41: S_i is the value at α^i. -/
theorem rsSyndEvaluatesAtTheRoots : Obligations.RsSyndEvaluatesAtTheRoots := by
  intro s g b h hb
  have hg := bounds_of_geometry h
  have hle := hg.ecc_le
  have hbyte (i : Nat) (hi : i < 32) : (syndBody g b s).finish.mem.lookup (syndBase + i) =
      some (if i < g.ecc then polyValue (dataBlock s g b ++ eccBlock s g b) (alphaPower i) else 0#8) := by
    rw [finish_mem, syndBody_mem, lookup_storeBytes_add _ _ (by rwa [length_syndromes]), syndromes_getElem? _ _ hi]
  have hroot (i : Nat) (hi : i < g.ecc) := (hbyte i (by omega)).trans (congrArg some (if_pos hi))
  refine ⟨blockIsInData s g b, blockIsInEcc s g b, _, exec_rsSynd h hb, hroot, ?zeros, ?synz, ?kept, ?frame⟩
  case zeros => exact fun i hge hi => (hbyte i hi).trans (congrArg some (if_neg (Nat.not_lt.2 hge)))
  case synz =>
    rw [finish_status]
    refine (syndBody_synz_iff hg b s).trans (forall₂_congr fun i hi => ?_)
    rw [hroot i hi, Option.some_inj]
    rfl
  case kept =>
    intro a ha
    rw [finish_mem, syndBody_mem]
    exact lookup_storeBytes_outside _ (by rwa [length_syndromes])
  case frame => simp [KeepsRegisters]

/-- Settles O42: RS_SYND reads the block that was encoded, followed by its remainder, and this vanishes at every root. -/
theorem encodedBlockHasZeroSyndromes : Obligations.EncodedBlockHasZeroSyndromes := by
  intro i s t u g b h hb hw hi ht hcfg hdata hecc
  have hg := bounds_of_geometry h
  obtain ⟨htdata, htecc⟩ := holdsEncodedBlock_of_exec h hb hi ht
  have hblock : dataBlock u g b = dataBlock s g b :=
    dataBlock_congr hw fun j hj => (hdata j hj).trans (htdata _ (dataBase_add_lt_eccBase hg hb hj))
  have hrem : eccBlock u g b = rsRemainder (dataBlock s g b) g.ecc :=
    eccBlock_eq_of_lookup (length_rsRemainder _ _) fun j hj => (hecc j hj).trans (htecc j hj)
  refine ⟨blockIsInData u g b, blockIsInEcc u g b, _, exec_rsSynd (hcfg ▸ h) hb,
    (syndBody_synz_iff hg b u).2 fun j hj => ?_⟩
  rw [hblock, hrem, polyValue_append_rsRemainder _ hj]

end Sys2Proof.Proofs
end

section
/-! SUPPORT. The symbol matrix (42_matrix.md). What a list of stamps leaves; where the template's groups lie, and that they
agree where they meet; the scan as its closed form counted through, and placement as what the k-th open cell gets; the
structure as rectangles that do not meet. With these, the statements about the commands of the matrix. -/

namespace Sys2Proof.Proofs

open Sys2Proof Sys2Proof.Machine Sys2Proof.Claims Sys2Proof.Safety Sys2Proof.Laws

/-! ### The commands (R168 to R182) -/

section
variable {s : State} {g : Geometry} (h : geometry s.cfg = some g)
include h

theorem exec_mxTemplate : exec .mxTemplate s = .next (templateBody g s).finish := withGeometry_some h _

theorem exec_mxVerinfo : exec .mxVerinfo s = .next (verinfoBody g s).finish := withGeometry_some h _

theorem exec_mxPlace : exec .mxPlace s = .next (placeBody g s).finish := withGeometry_some h _

theorem exec_mxFormat : exec .mxFormat s = .next (formatBody g s).finish := withGeometry_some h _

theorem exec_mxBuild : exec .mxBuild s = .next (buildBody g s).finish := withGeometry_some h _

theorem exec_qrEncode : exec .qrEncode s = .next (buildBody g (encodeBody g s)).finish := withGeometry_some h _

end

theorem exec_mxClear (s : State) : exec .mxClear s = .next (clearBody s).finish := rfl

/-! The end of a command changes nothing that a command of the matrix reads or writes. -/

@[simp] theorem finish_finish (s : State) : s.finish.finish = s.finish := rfl

@[simp] theorem clearBody_finish (s : State) : clearBody s.finish = (clearBody s).finish := rfl

@[simp] theorem templateBody_finish (g : Geometry) (s : State) : templateBody g s.finish = (templateBody g s).finish :=
  rfl

@[simp] theorem verinfoBody_finish (g : Geometry) (s : State) : verinfoBody g s.finish = (verinfoBody g s).finish := rfl

@[simp] theorem placeBody_finish (g : Geometry) (s : State) : placeBody g s.finish = (placeBody g s).finish := rfl

@[simp] theorem formatBody_finish (g : Geometry) (s : State) : formatBody g s.finish = (formatBody g s).finish := rfl

@[simp] theorem buildBody_finish (g : Geometry) (s : State) : buildBody g s.finish = (buildBody g s).finish := by
  simp [buildBody]

/-- A command that only writes the planes keeps every register. -/
theorem endsDone_setPlanes (p : Planes) (s : State) : EndsDone s (s.setPlanes p).finish := by
  simp [EndsDone, KeepsRegisters]

/-- What CFG selects has a version below 41, the bound of the facts that are decided on the tables. -/
theorem version_lt {g : Geometry} (hg : GeometryBounds g) : g.version < 41 := Nat.lt_succ_of_le hg.version_le

/-- RS_ENCODE writes ECC and SEQ only. -/
theorem lookup_encodeBody_outside {g : Geometry} (hg : GeometryBounds g) (s : State) {a : Nat}
    (ha : a < eccBase ∨ syndBase ≤ a) : (encodeBody g s).mem.lookup a = s.mem.lookup a := by
  have heccs := hg.eccs_le
  have htotal := hg.total_le
  simp only [eccBase, syndBase] at ha
  rw [encodeBody, lookup_interleaveBody_outside hg (by rw [seqBase]; omega)]
  exact lookup_foldl_storeEcc_outside s g _ _ (by rw [eccBase]; omega)

/-! ### MX_CLEAR (R168) -/

theorem clearBody_cell (s : State) {r c : Nat} (hr : r ≤ 176) (hc : c ≤ 176) :
    (clearBody s).planes.dark.cell? r c = some false ∧ (clearBody s).planes.rsv.cell? r c = some false :=
  ⟨cell_filled false (by omega) (by omega), cell_filled false (by omega) (by omega)⟩

/-- With the engine idle, the window shows 0 for every cell when all cells are 0. -/
theorem hostRead_matrix_eq_zero {t : State} (hr : t.running = none)
    (hcell : ∀ r ≤ 176, ∀ c ≤ 176, t.planes.dark.cell? r c = some false ∧ t.planes.rsv.cell? r c = some false)
    {off : Offset} (hoff : 0x10000 ≤ off.toNat) : hostRead t .byte off = 0 := by
  obtain ⟨r, c, hrow, hcol, haddr⟩ : ∃ r c, r < 256 ∧ c < 256 ∧ off.toNat = 0x10000 + 256 * r + c :=
    ⟨(off.toNat - 0x10000) / 256, (off.toNat - 0x10000) % 256, by omega⟩
  rw [hostRead_outside_registers t (w := .byte) (Nat.mod_one _) (by omega)]
  apply BitVec.eq_of_toNat_eq
  rw [readBytes_byte_toNat, haddr, hostReadByte_matrix hr hrow hcol]
  by_cases hin : r ≤ 176 ∧ c ≤ 176
  · obtain ⟨hdark, hrsv⟩ := hcell r hin.1 c hin.2
    exact matrixByte_toNat hin.1 hin.2 hdark hrsv
  · rw [matrixByte_outside t (by omega)]
    rfl

/-! ### The tables (R130, R162, R170, R178) -/

theorem alignOf_eq_alignClosedForm : ∀ v < 41, 2 ≤ v → alignOf v = alignClosedForm v := by decide +kernel

theorem verinfoOf_eq_bch : ∀ v < 41, 7 ≤ v → verinfoOf v = (v <<< 12) ^^^ binaryRemainder 0x1F25 12 6 (v <<< 12) := by
  decide +kernel

theorem formatOf_eq_bch : ∀ l ∈ [Level.L, .M, .Q, .H], ∀ m < 8, formatOf l m =
    (((levelIndicator l * 8 + m) <<< 10) ^^^ binaryRemainder 0x537 10 5 ((levelIndicator l * 8 + m) <<< 10)) ^^^
      0x5412 := by
  decide +kernel

/-- The columns T, REM and D of a row, as R130 gives them. -/
def RowMatchesFormulas (row : VersionRow) (l : Level) : Prop :=
  row.total = row.raw / 8 ∧ row.rem = row.raw - 8 * row.total ∧
    (row.atLevel l).data = row.total - (row.atLevel l).blocks * (row.atLevel l).ecc

theorem structRow_matches : ∀ v < 41, 1 ≤ v → ∀ l ∈ [Level.L, .M, .Q, .H],
    ∃ row ∈ structRow v, RowMatchesFormulas row l := by
  unfold RowMatchesFormulas
  decide +kernel

theorem mem_levels (l : Level) : l ∈ [Level.L, .M, .Q, .H] := by cases l <;> simp

/-! ### What a list of stamps leaves -/

/-- The stamps of `l` set exactly the cells to which `f` gives a value, each to this value. -/
structure Sets (l : List Stamp) (f : Nat → Nat → Option Bool) : Prop where
  value : ∀ st ∈ l, f st.row st.col = some st.dark
  named : ∀ r c x, f r c = some x → r < 177 ∧ c < 177 ∧ ∃ st ∈ l, st.row = r ∧ st.col = c

section
variable {l : List Stamp} {f : Nat → Nat → Option Bool} {r c : Nat} (h : Sets l f)
include h

theorem Sets.stamp_some {x : Bool} (hx : f r c = some x) (p : Planes) :
    (p.stamp l).dark.cell? r c = some x ∧ (p.stamp l).rsv.cell? r c = some true := by
  obtain ⟨hr, hc, hmem⟩ := h.named r c x hx
  refine stamp_mem p l hr hc hmem fun st hst hrow hcol => ?_
  rw [← Option.some_inj, ← h.value st hst, hrow, hcol, hx]

theorem Sets.stamp_none (hn : f r c = none) (p : Planes) :
    (p.stamp l).dark.cell? r c = p.dark.cell? r c ∧ (p.stamp l).rsv.cell? r c = p.rsv.cell? r c := by
  refine stamp_notMem p l fun st hst hcell => ?_
  have hval := h.value st hst
  rw [hcell.1, hcell.2, hn] at hval
  contradiction

end

/-! ### Squares and finder zones (R161, R163) -/

theorem ringOf_le_iff (cr cc r c d : Nat) :
    ringOf cr cc r c ≤ d ↔ (r ≤ cr + d ∧ cr ≤ r + d) ∧ c ≤ cc + d ∧ cc ≤ c + d := by
  simp only [ringOf, absDiff]
  omega

theorem mem_squareCells (rad cr cc : Nat) (cell : Nat × Nat) :
    cell ∈ squareCells rad cr cc ↔ ringOf cr cc cell.1 cell.2 ≤ rad := by
  obtain ⟨r, c⟩ := cell
  simp only [squareCells, List.mem_flatMap, List.mem_map, List.mem_range'_1, Prod.mk.injEq, ringOf_le_iff]
  constructor
  · rintro ⟨r', hr', c', hc', rfl, rfl⟩
    omega
  · intro h
    exact ⟨r, by omega, c, by omega, rfl, rfl⟩

theorem inFinderZone_iff_ringOf (S r c : Nat) :
    inFinderZone S r c = true ↔ ∃ f ∈ finderCentres S, ringOf f.1 f.2 r c ≤ 4 := by
  simp [inFinderZone]

/-- The three zones by their corners. -/
theorem inFinderZone_iff {S : Nat} (hS : 8 ≤ S) (r c : Nat) : inFinderZone S r c = true ↔
    (r ≤ 7 ∧ c ≤ 7) ∨ (r ≤ 7 ∧ c ≤ S ∧ S ≤ c + 8) ∨ (r ≤ S ∧ S ≤ r + 8 ∧ c ≤ 7) := by
  simp only [inFinderZone_iff_ringOf, finderCentres, List.mem_cons, List.not_mem_nil, or_false, exists_eq_or_imp,
    exists_eq_left, ringOf_le_iff]
  omega

theorem mem_finderStamps (S : Nat) (st : Stamp) : st ∈ finderStamps S ↔ st.row < S ∧ st.col < S ∧
    ∃ f ∈ finderCentres S, ringOf f.1 f.2 st.row st.col ≤ 4 ∧
      st.dark = decide (ringOf f.1 f.2 st.row st.col ≠ 2 ∧ ringOf f.1 f.2 st.row st.col ≠ 4) := by
  have hdark {d : Nat} (hd : d ≤ 4) : (d == 0 || d == 1 || d == 3) = decide (d ≠ 2 ∧ d ≠ 4) := by
    interval_cases d <;> rfl
  obtain ⟨r, c, x⟩ := st
  simp only [finderStamps, finderAt, List.mem_flatMap, List.mem_map, List.mem_filter, mem_squareCells, Bool.and_eq_true,
    decide_eq_true_eq, Stamp.mk.injEq]
  constructor
  · rintro ⟨f, hf, cell, ⟨hring, hr, hc⟩, rfl, rfl, rfl⟩
    exact ⟨hr, hc, f, hf, hring, hdark hring⟩
  · rintro ⟨hr, hc, f, hf, hring, hx⟩
    exact ⟨f, hf, (r, c), ⟨hring, hr, hc⟩, rfl, rfl, (hdark hring).trans hx.symm⟩

/-! ### Alignment patterns (R162, R163) -/

/-- Coordinates of ALIGN[v] are even, and lie far from the finders except for the first and the last, 6 and S − 7. -/
theorem alignOf_bounds : ∀ v < 41, ∀ a ∈ alignOf v,
    a % 2 = 0 ∧ (a = 6 ∨ 18 ≤ a) ∧ (a = 14 + 4 * (v - 1) ∨ a + 12 ≤ 14 + 4 * (v - 1)) := by
  decide +kernel

/-- Coordinates of ALIGN[v] lie so far apart that no two patterns meet. -/
theorem alignOf_apart : ∀ v < 41, ∀ a ∈ alignOf v, ∀ b ∈ alignOf v, a = b ∨ a + 12 ≤ b ∨ b + 12 ≤ a := by
  decide +kernel

/-- A pattern's footprint meets a finder zone exactly at the three corners that have a finder. -/
theorem footprint_meets_finder_iff {v ar ac : Nat} (hv : v < 41) (hr : ar ∈ alignOf v) (hc : ac ∈ alignOf v) :
    (∃ cell ∈ squareCells 2 ar ac, inFinderZone (21 + 4 * (v - 1)) cell.1 cell.2 = true) ↔
      (ar, ac) = (6, 6) ∨ (ar, ac) = (6, 21 + 4 * (v - 1) - 7) ∨ (ar, ac) = (21 + 4 * (v - 1) - 7, 6) := by
  have hr := alignOf_bounds v hv ar hr
  have hc := alignOf_bounds v hv ac hc
  simp only [mem_squareCells, ringOf_le_iff, inFinderZone_iff (show 8 ≤ 21 + 4 * (v - 1) by omega), Prod.mk.injEq]
  constructor
  · rintro ⟨cell, hring, hzone⟩
    omega
  · intro h
    exact ⟨(ar, ac), by omega, by omega⟩

theorem mem_alignmentCentres_iff (v S ar ac : Nat) : (ar, ac) ∈ alignmentCentres v S ↔
    ar ∈ alignOf v ∧ ac ∈ alignOf v ∧ ¬∃ cell ∈ squareCells 2 ar ac, inFinderZone S cell.1 cell.2 = true := by
  simp [alignmentCentres, and_assoc]

/-- Of the corners of the grid of coordinates, only the one without a finder keeps its pattern. -/
theorem mem_alignmentCentres {v : Nat} (hv : v < 41) (ar ac : Nat) : (ar, ac) ∈ alignmentCentres v (21 + 4 * (v - 1)) ↔
    ar ∈ alignOf v ∧ ac ∈ alignOf v ∧
      ¬((ar, ac) = (6, 6) ∨ (ar, ac) = (6, 21 + 4 * (v - 1) - 7) ∨ (ar, ac) = (21 + 4 * (v - 1) - 7, 6)) := by
  rw [mem_alignmentCentres_iff]
  exact and_congr_right fun hr => and_congr_right fun hc => not_congr (footprint_meets_finder_iff hv hr hc)

theorem mem_alignmentStamps (v S : Nat) (st : Stamp) : st ∈ alignmentStamps v S ↔
    ∃ f ∈ alignmentCentres v S, ringOf f.1 f.2 st.row st.col ≤ 2 ∧
      st.dark = decide (ringOf f.1 f.2 st.row st.col ≠ 1) := by
  have hdark (d : Nat) : (d != 1) = decide (d ≠ 1) := (decide_not ..).symm
  obtain ⟨r, c, x⟩ := st
  simp only [alignmentStamps, alignmentAt, List.mem_flatMap, List.mem_map, mem_squareCells, Stamp.mk.injEq]
  constructor
  · rintro ⟨f, hf, cell, hring, rfl, rfl, rfl⟩
    exact ⟨f, hf, hring, hdark _⟩
  · rintro ⟨f, hf, hring, hx⟩
    exact ⟨f, hf, (r, c), hring, rfl, rfl, (hdark _).trans hx.symm⟩

/-- Where a pattern is drawn: on row 6 or column 6 away from the finders, or inside. -/
theorem alignmentCentre_bounds {v : Nat} (hv : v < 41) {f : Nat × Nat} (hf : f ∈ alignmentCentres v (21 + 4 * (v - 1))) :
    (f.1 % 2 = 0 ∧ f.2 % 2 = 0) ∧
      ((f.1 = 6 ∧ 18 ≤ f.2 ∧ f.2 + 19 ≤ 21 + 4 * (v - 1)) ∨ (f.2 = 6 ∧ 18 ≤ f.1 ∧ f.1 + 19 ≤ 21 + 4 * (v - 1)) ∨
        (18 ≤ f.1 ∧ 18 ≤ f.2 ∧ f.1 + 7 ≤ 21 + 4 * (v - 1) ∧ f.2 + 7 ≤ 21 + 4 * (v - 1))) := by
  obtain ⟨ar, ac⟩ := f
  obtain ⟨hr, hc, hcorner⟩ := (mem_alignmentCentres hv ..).1 hf
  simp only [Prod.mk.injEq] at hcorner
  have hr := alignOf_bounds v hv ar hr
  have hc := alignOf_bounds v hv ac hc
  omega

/-- A cell lies in the footprint of one drawn pattern only. -/
theorem alignmentCentre_unique {v S r c : Nat} (hv : v < 41) {f f' : Nat × Nat} (hf : f ∈ alignmentCentres v S)
    (hf' : f' ∈ alignmentCentres v S) (hring : ringOf f.1 f.2 r c ≤ 2) (hring' : ringOf f'.1 f'.2 r c ≤ 2) : f' = f := by
  obtain ⟨ar, ac⟩ := f
  obtain ⟨ar', ac'⟩ := f'
  obtain ⟨hr, hc, -⟩ := (mem_alignmentCentres_iff ..).1 hf
  obtain ⟨hr', hc', -⟩ := (mem_alignmentCentres_iff ..).1 hf'
  have hrow := alignOf_apart v hv ar hr ar' hr'
  have hcol := alignOf_apart v hv ac hc ac' hc'
  rw [ringOf_le_iff] at hring hring'
  rw [Prod.mk.injEq]
  omega

/-! ### Timing and format cells (R164 to R167) -/

theorem mem_timingStamps (S : Nat) (st : Stamp) : st ∈ timingStamps S ↔
    (st.row = 6 ∧ 8 ≤ st.col ∧ st.col + 8 < S ∧ st.dark = decide (st.col % 2 = 0)) ∨
      (st.col = 6 ∧ 8 ≤ st.row ∧ st.row + 8 < S ∧ st.dark = decide (st.row % 2 = 0)) := by
  obtain ⟨r, c, x⟩ := st
  simp only [timingStamps, List.mem_flatMap, List.mem_range'_1, List.mem_cons, List.not_mem_nil, or_false,
    Stamp.mk.injEq, beq_eq_decide]
  constructor
  · rintro ⟨i, hi, ⟨rfl, rfl, rfl⟩ | ⟨rfl, rfl, rfl⟩⟩
    · exact .inl ⟨rfl, hi.1, by omega, rfl⟩
    · exact .inr ⟨rfl, hi.1, by omega, rfl⟩
  · rintro (⟨rfl, hlo, hhi, hx⟩ | ⟨rfl, hlo, hhi, hx⟩)
    · exact ⟨c, by omega, .inl ⟨rfl, rfl, hx⟩⟩
    · exact ⟨r, by omega, .inr ⟨rfl, rfl, hx⟩⟩

theorem strip1_eq_map : strip1 = (List.range 15).map formatCell1 := rfl

/-- F2 (R165) in two cases: along row 8 leftwards, then down column 8. -/
theorem formatCell2_eq {S i : Nat} (hS : 15 ≤ S) (hi : i < 15) :
    formatCell2 S i = if i ≤ 7 then (8, S - 1 - i) else (S - 15 + i, 8) := by
  unfold formatCell2
  split_ifs <;> simp only [Prod.mk.injEq, true_and, and_true] <;> omega

theorem strip2_eq_map {S : Nat} (hS : 15 ≤ S) : strip2 S = (List.range 15).map (formatCell2 S) := by
  simp [strip2, List.range_succ, formatCell2]
  omega

theorem mem_strip1 (r c : Nat) : (r, c) ∈ strip1 ↔ (c = 8 ∧ r ≤ 8 ∧ r ≠ 6) ∨ (r = 8 ∧ c ≤ 7 ∧ c ≠ 6) := by
  simp only [strip1, List.mem_cons, Prod.mk.injEq, List.not_mem_nil, or_false]
  omega

theorem mem_strip2 {S : Nat} (hS : 15 ≤ S) (r c : Nat) : (r, c) ∈ strip2 S ↔
    (r = 8 ∧ S ≤ c + 8 ∧ c < S) ∨ (c = 8 ∧ S ≤ r + 7 ∧ r < S) := by
  rw [strip2_eq_map hS, List.mem_map]
  constructor
  · rintro ⟨i, hi, hcell⟩
    have hi := List.mem_range.1 hi
    rw [formatCell2_eq hS hi] at hcell
    split_ifs at hcell <;> rw [Prod.mk.injEq] at hcell <;> omega
  · rintro (⟨rfl, hlo, hhi⟩ | ⟨rfl, hlo, hhi⟩)
    · refine ⟨S - 1 - c, List.mem_range.2 (by omega), ?_⟩
      rw [formatCell2_eq hS (by omega), if_pos (by omega), Prod.mk.injEq]
      omega
    · refine ⟨r + 15 - S, List.mem_range.2 (by omega), ?_⟩
      rw [formatCell2_eq hS (by omega), if_neg (by omega), Prod.mk.injEq]
      omega

theorem mem_reserveStamps {S : Nat} (hS : 15 ≤ S) (st : Stamp) : st ∈ reserveStamps S ↔
    ((st.row, st.col) ∈ strip1 ∨ (st.row, st.col) ∈ strip2 S ∨ (st.row, st.col) = (S - 8, 8)) ∧ st.dark = false := by
  obtain ⟨r, c, x⟩ := st
  have hstamp (cell : Nat × Nat) : (⟨r, c, x⟩ : Stamp) = stampOf cell false ↔ cell = (r, c) ∧ x = false := by
    simp only [stampOf, Stamp.mk.injEq, Prod.ext_iff, eq_comm (a := r), eq_comm (a := c), and_assoc]
  simp only [reserveStamps, strip1_eq_map, strip2_eq_map hS, List.mem_append, List.mem_flatMap, List.mem_cons,
    List.not_mem_nil, or_false, hstamp, List.mem_map, darkModule]
  grind

/-! ### MX_TEMPLATE cell by cell (R161 to R169) -/

/-- Where one element only passes the test, it is the one found. -/
theorem find?_eq_some_of_unique {α : Type} {l : List α} {p : α → Bool} {x : α} (hx : x ∈ l) (hp : p x = true)
    (huniq : ∀ y ∈ l, p y = true → y = x) : l.find? p = some x := by
  cases hfind : l.find? p with
  | none => exact absurd hp (List.find?_eq_none.1 hfind x hx)
  | some y => rw [huniq y (List.mem_of_find?_eq_some hfind) (List.find?_some hfind)]

theorem templateCell_outside {v S r c : Nat} (h : ¬(r < S ∧ c < S)) : templateCell v S r c = none := if_pos h

/-- The finder zones of a symbol do not meet. -/
theorem finderCentre_unique {S r c : Nat} (hS : 21 ≤ S) {f f' : Nat × Nat} (hf : f ∈ finderCentres S)
    (hf' : f' ∈ finderCentres S) (hring : ringOf f.1 f.2 r c ≤ 4) (hring' : ringOf f'.1 f'.2 r c ≤ 4) : f' = f := by
  obtain ⟨fr, fc⟩ := f
  obtain ⟨fr', fc'⟩ := f'
  simp only [finderCentres, List.mem_cons, Prod.mk.injEq, List.not_mem_nil, or_false] at hf hf'
  rw [ringOf_le_iff] at hring hring'
  rw [Prod.mk.injEq]
  omega

theorem templateCell_finder {v S r c : Nat} (hS : 21 ≤ S) (hin : r < S ∧ c < S) {f : Nat × Nat}
    (hf : f ∈ finderCentres S) (hring : ringOf f.1 f.2 r c ≤ 4) :
    templateCell v S r c = some (decide (ringOf f.1 f.2 r c ≠ 2 ∧ ringOf f.1 f.2 r c ≠ 4)) := by
  have hfind : (finderCentres S).find? (fun f => decide (ringOf f.1 f.2 r c ≤ 4)) = some f :=
    find?_eq_some_of_unique hf (decide_eq_true hring) fun f' hf' hring' =>
      finderCentre_unique hS hf hf' hring (of_decide_eq_true hring')
  rw [templateCell, if_neg (not_not.2 hin), hfind]

/-- The value of a cell that belongs to no finder and no alignment pattern. -/
def plainCell (S r c : Nat) : Option Bool :=
  if r = 6 ∧ 8 ≤ c ∧ c ≤ S - 9 then some (c % 2 = 0)
  else if c = 6 ∧ 8 ≤ r ∧ r ≤ S - 9 then some (r % 2 = 0)
  else if (r, c) ∈ strip1 ∨ (r, c) ∈ strip2 S ∨ (r, c) = (S - 8, 8) then some false
  else none

theorem find?_finderCentres_eq_none {S r c : Nat} (hzone : ¬inFinderZone S r c = true) :
    (finderCentres S).find? (fun f => decide (ringOf f.1 f.2 r c ≤ 4)) = none := by
  rw [inFinderZone_iff_ringOf] at hzone
  simpa using hzone

theorem templateCell_alignment {v S r c : Nat} (hv : v < 41) (hin : r < S ∧ c < S) (hzone : ¬inFinderZone S r c = true)
    {f : Nat × Nat} (hf : f ∈ alignmentCentres v S) (hring : ringOf f.1 f.2 r c ≤ 2) :
    templateCell v S r c = some (decide (ringOf f.1 f.2 r c ≠ 1)) := by
  have hfind : (alignmentCentres v S).find? (fun f => decide (ringOf f.1 f.2 r c ≤ 2)) = some f :=
    find?_eq_some_of_unique hf (decide_eq_true hring) fun f' hf' hring' =>
      alignmentCentre_unique hv hf hf' hring (of_decide_eq_true hring')
  rw [templateCell, if_neg (not_not.2 hin), find?_finderCentres_eq_none hzone, hfind]

theorem templateCell_plain {v S r c : Nat} (hin : r < S ∧ c < S) (hzone : ¬inFinderZone S r c = true)
    (halign : ∀ f ∈ alignmentCentres v S, ¬ringOf f.1 f.2 r c ≤ 2) : templateCell v S r c = plainCell S r c := by
  have hfind : (alignmentCentres v S).find? (fun f => decide (ringOf f.1 f.2 r c ≤ 2)) = none := by
    rw [List.find?_eq_none]
    exact fun f hf hring => halign f hf (of_decide_eq_true hring)
  rw [templateCell, if_neg (not_not.2 hin), find?_finderCentres_eq_none hzone, hfind]
  rfl

theorem plainCell_named {S r c : Nat} {x : Bool} (hS : 15 ≤ S) (hx : plainCell S r c = some x) :
    ⟨r, c, x⟩ ∈ timingStamps S ∨ ⟨r, c, x⟩ ∈ reserveStamps S := by
  simp only [mem_timingStamps, mem_reserveStamps hS]
  unfold plainCell at hx
  split_ifs at hx with hrow hcol hstrip <;> rw [Option.some_inj] at hx
  · exact .inl (.inl ⟨hrow.1, hrow.2.1, by omega, hx.symm⟩)
  · exact .inl (.inr ⟨hcol.1, hcol.2.1, by omega, hx.symm⟩)
  · exact .inr ⟨hstrip, hx.symm⟩

section
variable {v S : Nat} (hv : v < 41) (hS : S = 21 + 4 * (v - 1))
include hv hS

/-- No footprint meets a finder zone or leaves the symbol. -/
theorem footprint_clear {f : Nat × Nat} (hf : f ∈ alignmentCentres v S) {r c : Nat} (hring : ringOf f.1 f.2 r c ≤ 2) :
    (r < S ∧ c < S) ∧ ¬inFinderZone S r c = true := by
  subst hS
  have hb := alignmentCentre_bounds hv hf
  rw [ringOf_le_iff] at hring
  rw [inFinderZone_iff (by omega)]
  omega

/-- Outside the finder zones a timing line's cells show their parity, those in an alignment pattern too. -/
theorem templateCell_timing {st : Stamp} (hst : st ∈ timingStamps S) :
    templateCell v S st.row st.col = some st.dark := by
  have hline := (mem_timingStamps ..).1 hst
  have hin : st.row < S ∧ st.col < S := by omega
  have hzone : ¬inFinderZone S st.row st.col = true := by
    rw [inFinderZone_iff (by omega)]
    omega
  by_cases halign : ∃ f ∈ alignmentCentres v S, ringOf f.1 f.2 st.row st.col ≤ 2
  · obtain ⟨f, hf, hring⟩ := halign
    subst hS
    have hb := alignmentCentre_bounds hv hf
    rw [templateCell_alignment hv hin hzone hf hring, Option.some_inj]
    obtain ⟨hrow, -, -, hdark⟩ | ⟨hcol, -, -, hdark⟩ := hline
    all_goals
      rw [hdark, decide_eq_decide]
      simp only [ringOf, absDiff] at hring ⊢
      omega
  · rw [templateCell_plain hin hzone (by simpa using halign), plainCell]
    obtain ⟨hrow, hlo, hhi, hdark⟩ | ⟨hcol, hlo, hhi, hdark⟩ := hline
    · rw [if_pos (by omega), hdark]
    · rw [if_neg (by omega), if_pos (by omega), hdark]

/-- Format cells and the dark module touch no pattern. -/
theorem templateCell_reserve {st : Stamp} (hst : st ∈ reserveStamps S) :
    templateCell v S st.row st.col = some st.dark := by
  obtain ⟨hstrip, hdark⟩ := (mem_reserveStamps (by omega) _).1 hst
  have hcell : (st.col = 8 ∧ st.row < S ∧ st.row ≠ 6 ∧ (st.row ≤ 8 ∨ S ≤ st.row + 8)) ∨
      (st.row = 8 ∧ st.col < S ∧ st.col ≠ 6 ∧ (st.col ≤ 8 ∨ S ≤ st.col + 8)) := by
    rw [mem_strip1, mem_strip2 (by omega), Prod.mk.injEq] at hstrip
    omega
  have hin : st.row < S ∧ st.col < S := by omega
  have hzone : ¬inFinderZone S st.row st.col = true := by
    rw [inFinderZone_iff (by omega)]
    omega
  have halign (f : Nat × Nat) (hf : f ∈ alignmentCentres v S) : ¬ringOf f.1 f.2 st.row st.col ≤ 2 := by
    subst hS
    have hb := alignmentCentre_bounds hv hf
    rw [ringOf_le_iff]
    omega
  rw [templateCell_plain hin hzone halign, plainCell, if_neg (by omega), if_neg (by omega), if_pos hstrip, hdark]

/-- MX_TEMPLATE's groups agree wherever they meet, and name every cell of the template. -/
theorem sets_templateStamps : Sets (templateStamps v S) (templateCell v S) where
  value st hst := by
    simp only [templateStamps, List.mem_append, or_assoc] at hst
    rcases hst with hfinder | halign | htiming | hreserve
    · obtain ⟨hr, hc, f, hf, hring, hdark⟩ := (mem_finderStamps ..).1 hfinder
      rw [templateCell_finder (by omega) ⟨hr, hc⟩ hf hring, hdark]
    · obtain ⟨f, hf, hring, hdark⟩ := (mem_alignmentStamps ..).1 halign
      obtain ⟨hin, hzone⟩ := footprint_clear hv hS hf hring
      rw [templateCell_alignment hv hin hzone hf hring, hdark]
    · exact templateCell_timing hv hS htiming
    · exact templateCell_reserve hv hS hreserve
  named r c x hx := by
    have hin : r < S ∧ c < S := by
      by_contra hout
      rw [templateCell_outside hout] at hx
      contradiction
    suffices hst : ⟨r, c, x⟩ ∈ templateStamps v S from ⟨by omega, by omega, _, hst, rfl, rfl⟩
    simp only [templateStamps, List.mem_append, or_assoc]
    by_cases hzone : inFinderZone S r c = true
    · obtain ⟨f, hf, hring⟩ := (inFinderZone_iff_ringOf ..).1 hzone
      rw [templateCell_finder (by omega) hin hf hring, Option.some_inj] at hx
      exact .inl ((mem_finderStamps ..).2 ⟨hin.1, hin.2, f, hf, hring, hx.symm⟩)
    · by_cases halign : ∃ f ∈ alignmentCentres v S, ringOf f.1 f.2 r c ≤ 2
      · obtain ⟨f, hf, hring⟩ := halign
        rw [templateCell_alignment hv hin hzone hf hring, Option.some_inj] at hx
        exact .inr (.inl ((mem_alignmentStamps ..).2 ⟨f, hf, hring, hx.symm⟩))
      · rw [templateCell_plain hin hzone (by simpa using halign)] at hx
        exact .inr (.inr (plainCell_named (by omega) hx))

end

/-! ### MX_VERINFO (R170 to R172) -/

theorem mem_verinfoStamps {v S : Nat} (st : Stamp) : st ∈ verinfoStamps v S ↔ 7 ≤ v ∧ ∃ i < 18,
    st = ⟨i / 3, S - 11 + i % 3, (verinfoOf v).testBit i⟩ ∨ st = ⟨S - 11 + i % 3, i / 3, (verinfoOf v).testBit i⟩ := by
  unfold verinfoStamps
  split_ifs with h7 <;> simp [h7]

/-- Block A, left of the top-right separator. -/
theorem verinfoCell_blockA {v S i r c : Nat} (h7 : 7 ≤ v) (hS : 11 ≤ S) (hi : i < 18) (hr : r = i / 3)
    (hc : c = S - 11 + i % 3) : verinfoCell v S r c = some ((verinfoOf v).testBit i) := by
  have hbit : 3 * r + (c - (S - 11)) = i := by omega
  rw [verinfoCell, if_neg (by omega), if_pos (by omega), hbit]

/-- Block B, above the bottom-left separator. -/
theorem verinfoCell_blockB {v S i r c : Nat} (h7 : 7 ≤ v) (hS : 17 ≤ S) (hi : i < 18) (hr : r = S - 11 + i % 3)
    (hc : c = i / 3) : verinfoCell v S r c = some ((verinfoOf v).testBit i) := by
  have hbit : 3 * c + (r - (S - 11)) = i := by omega
  rw [verinfoCell, if_neg (by omega), if_neg (by omega), if_pos (by omega), hbit]

/-- A cell with a value lies in one of the two blocks. -/
theorem verinfoCell_eq_some {v S r c : Nat} {x : Bool} (hS : 11 ≤ S) (hx : verinfoCell v S r c = some x) :
    7 ≤ v ∧ ∃ i < 18, (r = i / 3 ∧ c = S - 11 + i % 3) ∨ (r = S - 11 + i % 3 ∧ c = i / 3) := by
  unfold verinfoCell at hx
  split_ifs at hx with h7 hA hB
  · exact ⟨by omega, 3 * r + (c - (S - 11)), by omega, .inl (by omega)⟩
  · exact ⟨by omega, 3 * c + (r - (S - 11)), by omega, .inr (by omega)⟩

theorem sets_verinfoStamps {v S : Nat} (hv : v < 41) (hS : S = 21 + 4 * (v - 1)) :
    Sets (verinfoStamps v S) (verinfoCell v S) where
  value st hst := by
    obtain ⟨h7, i, hi, rfl | rfl⟩ := (mem_verinfoStamps st).1 hst
    · exact verinfoCell_blockA h7 (by omega) hi rfl rfl
    · exact verinfoCell_blockB h7 (by omega) hi rfl rfl
  named r c x hx := by
    obtain ⟨h7, i, hi, ⟨rfl, rfl⟩ | ⟨rfl, rfl⟩⟩ := verinfoCell_eq_some (by omega) hx
    · exact ⟨by omega, by omega, _, (mem_verinfoStamps _).2 ⟨h7, i, hi, .inl rfl⟩, rfl, rfl⟩
    · exact ⟨by omega, by omega, _, (mem_verinfoStamps _).2 ⟨h7, i, hi, .inr rfl⟩, rfl, rfl⟩

/-- Below version 7 nothing is written. -/
theorem verinfoBody_planes_of_lt {g : Geometry} (h7 : g.version < 7) (s : State) :
    (verinfoBody g s).planes = s.planes := by
  rw [verinfoBody, setPlanes_planes, verinfoStamps, if_neg (by omega)]
  rfl

/-! ### MX_FORMAT (R178 to R180) -/

/-- The bit of the format code that a cell of either copy shows. -/
def formatIndex (S r c : Nat) : Nat :=
  if c = 8 then if r ≤ 5 then r else if r ≤ 8 then r - 1 else r + 15 - S
  else if c ≤ 5 then 14 - c
  else if c = 7 then 8
  else S - 1 - c

theorem formatIndex_formatCell1 (S : Nat) {i : Nat} (hi : i < 15) :
    formatIndex S (formatCell1 i).1 (formatCell1 i).2 = i := by
  unfold formatCell1 formatIndex
  split_ifs <;> dsimp only at * <;> omega

theorem formatIndex_formatCell2 {S i : Nat} (hS : 21 ≤ S) (hi : i < 15) :
    formatIndex S (formatCell2 S i).1 (formatCell2 S i).2 = i := by
  rw [formatCell2_eq (by omega) hi]
  unfold formatIndex
  split_ifs <;> dsimp only at * <;> omega

/-- The value that MX_FORMAT gives a cell it writes. -/
def formatValue (code S r c : Nat) : Bool :=
  if (r, c) = darkModule S then true else code.testBit (formatIndex S r c)

/-- A stamp of MX_FORMAT sets a cell of a copy to its bit, or the dark module. -/
theorem mem_formatStamps {copy2 : FormatCopy2} {code S : Nat} (st : Stamp) : st ∈ formatStamps copy2 code S ↔
    (∃ i < 15, st = stampOf (formatCell1 i) (code.testBit i) ∨
      (copy2 = .write ∧ st = stampOf (formatCell2 S i) (code.testBit i))) ∨ st = stampOf (darkModule S) true := by
  cases copy2 <;> simp [formatStamps]

/-- No cell of a copy is the dark module. -/
theorem formatCell_ne_darkModule {S i : Nat} (hS : 21 ≤ S) (hi : i < 15) :
    formatCell1 i ≠ darkModule S ∧ formatCell2 S i ≠ darkModule S := by
  rw [formatCell2_eq (by omega) hi]
  unfold formatCell1 darkModule
  split_ifs <;> simp only [ne_eq, Prod.mk.injEq] <;> omega

theorem formatValue_formatCell1 (code : Nat) {S i : Nat} (hS : 21 ≤ S) (hi : i < 15) :
    formatValue code S (formatCell1 i).1 (formatCell1 i).2 = code.testBit i := by
  rw [formatValue, if_neg (formatCell_ne_darkModule hS hi).1, formatIndex_formatCell1 S hi]

theorem formatValue_formatCell2 (code : Nat) {S i : Nat} (hS : 21 ≤ S) (hi : i < 15) :
    formatValue code S (formatCell2 S i).1 (formatCell2 S i).2 = code.testBit i := by
  rw [formatValue, if_neg (formatCell_ne_darkModule hS hi).2, formatIndex_formatCell2 hS hi]

/-- MX_FORMAT writes inside the symbol. -/
theorem lt_of_mem_formatStamps {copy2 : FormatCopy2} {code S : Nat} (hS : 21 ≤ S) {st : Stamp}
    (hst : st ∈ formatStamps copy2 code S) : st.row < S ∧ st.col < S := by
  obtain ⟨i, hi, rfl | ⟨-, rfl⟩⟩ | rfl := (mem_formatStamps st).1 hst <;> simp only [stampOf]
  · unfold formatCell1
    split_ifs <;> dsimp only <;> omega
  · rw [formatCell2_eq (by omega) hi]
    split_ifs <;> dsimp only <;> omega
  · simp only [darkModule]
    omega

/-- The i-th of the cells of format bits 0 to 14. -/
theorem getElem?_map_range {f : Nat → Nat × Nat} {n i : Nat} {cell : Nat × Nat} :
    ((List.range n).map f)[i]? = some cell ↔ i < n ∧ f i = cell := by
  simp [List.getElem?_eq_some_iff]

/-- Stamps that share a cell agree on its value. -/
theorem dark_of_mem_formatStamps {copy2 : FormatCopy2} {code S : Nat} (hS : 21 ≤ S) (st : Stamp)
    (hst : st ∈ formatStamps copy2 code S) : st.dark = formatValue code S st.row st.col := by
  obtain ⟨i, hi, rfl | ⟨-, rfl⟩⟩ | rfl := (mem_formatStamps st).1 hst
  · exact (formatValue_formatCell1 code hS hi).symm
  · exact (formatValue_formatCell2 code hS hi).symm
  · exact (if_pos rfl).symm

/-- Of stamps whose value depends on their cell, each sets its cell. -/
theorem stamp_of_mem {l : List Stamp} {f : Nat → Nat → Bool} (hval : ∀ st ∈ l, st.dark = f st.row st.col) (p : Planes)
    {st : Stamp} (hst : st ∈ l) (hr : st.row < 177) (hc : st.col < 177) :
    (p.stamp l).dark.cell? st.row st.col = some st.dark ∧ (p.stamp l).rsv.cell? st.row st.col = some true := by
  refine stamp_mem p l hr hc ⟨st, hst, rfl, rfl⟩ fun st' hst' hrow hcol => ?_
  rw [hval st hst, hval st' hst', hrow, hcol]

/-- Setting the same cells to the same values again changes nothing. -/
theorem stamp_stamp {l : List Stamp} {f : Nat → Nat → Bool} (hval : ∀ st ∈ l, st.dark = f st.row st.col) (p : Planes) :
    (p.stamp l).stamp l = p.stamp l := by
  have hcell (r c : Nat) : ((p.stamp l).stamp l).dark.cell? r c = (p.stamp l).dark.cell? r c ∧
      ((p.stamp l).stamp l).rsv.cell? r c = (p.stamp l).rsv.cell? r c := by
    by_cases hin : r < 177 ∧ c < 177
    · by_cases hnamed : ∃ st ∈ l, st.row = r ∧ st.col = c
      · obtain ⟨st, hst, rfl, rfl⟩ := hnamed
        obtain ⟨hdark, hrsv⟩ := stamp_of_mem hval p hst hin.1 hin.2
        obtain ⟨hdark', hrsv'⟩ := stamp_of_mem hval (p.stamp l) hst hin.1 hin.2
        exact ⟨hdark'.trans hdark.symm, hrsv'.trans hrsv.symm⟩
      · exact stamp_notMem _ l fun st hst hrc => hnamed ⟨st, hst, hrc⟩
    · simp only [cell_outside _ hin, and_self]
  have hdark := plane_ext fun r c => (hcell r c).1
  have hrsv := plane_ext fun r c => (hcell r c).2
  exact congrArg₂ Planes.mk hdark hrsv

theorem formatBody_planes (g : Geometry) (s : State) : (formatBody g s).planes =
    s.planes.stamp (formatStamps Config.formatCopy2 (formatOf s.cfg.level s.cfg.mask.toNat) g.size) := rfl

section
variable {g : Geometry} (hg : GeometryBounds g)
include hg

/-- MX_FORMAT leaves in the cell of each stamp its value. -/
theorem formatBody_of_mem (s : State) {cell : Nat × Nat} {x : Bool}
    (hst : stampOf cell x ∈ formatStamps Config.formatCopy2 (formatOf s.cfg.level s.cfg.mask.toNat) g.size) :
    (formatBody g s).planes.dark.cell? cell.1 cell.2 = some x ∧
      (formatBody g s).planes.rsv.cell? cell.1 cell.2 = some true := by
  have hlo := hg.version_pos
  have hhi := hg.version_le
  have hS := hg.size_eq
  obtain ⟨hr, hc⟩ := lt_of_mem_formatStamps (by omega) hst
  exact stamp_of_mem (dark_of_mem_formatStamps (by omega)) s.planes hst (by omega) (by omega)

theorem formatBody_copy1 (s : State) {i r c : Nat} (h : strip1[i]? = some (r, c)) :
    (formatBody g s).planes.dark.cell? r c = some ((formatOf s.cfg.level s.cfg.mask.toNat).testBit i) ∧
      (formatBody g s).planes.rsv.cell? r c = some true := by
  rw [strip1_eq_map, getElem?_map_range] at h
  obtain ⟨hi, hcell⟩ := h
  exact formatBody_of_mem hg s ((mem_formatStamps _).2 (.inl ⟨i, hi, .inl (by rw [hcell])⟩))

theorem formatBody_copy2 (s : State) (hcopy : Config.formatCopy2 = .write) {i r c : Nat}
    (h : (strip2 g.size)[i]? = some (r, c)) :
    (formatBody g s).planes.dark.cell? r c = some ((formatOf s.cfg.level s.cfg.mask.toNat).testBit i) ∧
      (formatBody g s).planes.rsv.cell? r c = some true := by
  have hS := hg.size_eq
  rw [strip2_eq_map (by omega), getElem?_map_range] at h
  obtain ⟨hi, hcell⟩ := h
  exact formatBody_of_mem hg s ((mem_formatStamps _).2 (.inl ⟨i, hi, .inr ⟨hcopy, by rw [hcell]⟩⟩))

theorem formatBody_darkModule (s : State) : (formatBody g s).planes.dark.cell? (g.size - 8) 8 = some true ∧
    (formatBody g s).planes.rsv.cell? (g.size - 8) 8 = some true :=
  formatBody_of_mem hg s (cell := darkModule g.size) ((mem_formatStamps _).2 (.inr rfl))

/-- A cell that is in no copy that is written, and not the dark module, keeps its values. -/
theorem formatBody_other (s : State) {r c : Nat} (h1 : (r, c) ∉ strip1) (hmodule : (r, c) ≠ (g.size - 8, 8))
    (h2 : Config.formatCopy2 = .write → (r, c) ∉ strip2 g.size) :
    (formatBody g s).planes.dark.cell? r c = s.planes.dark.cell? r c ∧
      (formatBody g s).planes.rsv.cell? r c = s.planes.rsv.cell? r c := by
  have hS := hg.size_eq
  refine stamp_notMem s.planes _ ?_
  rintro st hst ⟨rfl, rfl⟩
  obtain ⟨i, hi, rfl | ⟨hcopy, rfl⟩⟩ | rfl := (mem_formatStamps st).1 hst
  · exact h1 (strip1_eq_map ▸ List.mem_map_of_mem (List.mem_range.2 hi))
  · exact h2 hcopy (strip2_eq_map (S := g.size) (by omega) ▸ List.mem_map_of_mem (List.mem_range.2 hi))
  · exact hmodule rfl

/-- A second MX_FORMAT sets the same cells to the same values. -/
theorem formatBody_formatBody (s : State) : (formatBody g (formatBody g s)).planes = (formatBody g s).planes := by
  have hS := hg.size_eq
  rw [formatBody_planes, formatBody_cfg, formatBody_planes,
    stamp_stamp (dark_of_mem_formatStamps (S := g.size) (by omega))]

end

/-! ### The scan (R173) -/

/-- Runs of `m` elements in a row are one run, counted through. -/
theorem flatMap_range_map {α : Type} (n m : Nat) (f : Nat → Nat → α) :
    ((List.range n).flatMap fun p => (List.range m).map (f p)) = (List.range (n * m)).map fun j => f (j / m) (j % m) := by
  induction n with
  | zero => simp
  | succ n ih =>
    rw [List.range_succ, List.flatMap_append, ih, Nat.succ_mul, List.range_add, List.map_append, List.flatMap_singleton,
      List.map_map]
    refine congrArg _ (List.map_congr_left fun i hi => ?_)
    have hi := List.mem_range.1 hi
    rw [Function.comp_apply, Nat.mul_add_mod_self_right, Nat.mod_eq_of_lt hi, Nat.mul_comm,
      Nat.mul_add_div (Nat.zero_lt_of_lt hi), Nat.div_eq_of_lt hi, Nat.add_zero]

/-- A column pair's cells, counted through. -/
theorem pairCells_eq (S right : Nat) (up : Bool) : pairCells S right up =
    (List.range (2 * S)).map fun i => (if up then S - 1 - i / 2 else i / 2, right - i % 2) := by
  rw [Nat.mul_comm, ← flatMap_range_map S 2 fun t b => (if up = true then S - 1 - t else t, right - b)]
  rfl

/-- The right column of pair `p`. -/
def pairColumn (S p : Nat) : Nat := if S - 1 - 2 * p ≤ 6 then S - 2 - 2 * p else S - 1 - 2 * p

/-- The column with which the loop of R173 comes to pair `p`: it skips column 6 when it has come to it, so that only the
pairs after this one lie one column further left. -/
def loopColumn (S p : Nat) : Nat := if S - 1 - 2 * p ≤ 4 then S - 2 - 2 * p else S - 1 - 2 * p

/-- The loop skips column 6. -/
theorem skip_loopColumn {S p : Nat} (hodd : S % 2 = 1) (hp : 2 * p + 1 ≤ S) :
    (if loopColumn S p = 6 then 5 else loopColumn S p) = pairColumn S p := by
  unfold loopColumn pairColumn
  split_ifs <;> omega

theorem pairColumn_sub_two {S p : Nat} (hodd : S % 2 = 1) (hp : 2 * p + 1 < S) :
    pairColumn S p - 2 = loopColumn S (p + 1) := by
  unfold loopColumn pairColumn
  split_ifs <;> omega

/-- The loop runs through the pairs from `p` on. -/
theorem scanFrom_eq {S : Nat} (hodd : S % 2 = 1) (fuel p : Nat) (hfuel : S ≤ 2 * (p + fuel) + 1) (hp : 2 * p + 1 ≤ S) :
    scanFrom S fuel (loopColumn S p) (p % 2 == 0) =
      (List.range' p ((S - 1) / 2 - p)).flatMap fun q => pairCells S (pairColumn S q) (q % 2 == 0) := by
  induction fuel generalizing p with
  | zero =>
    have hnone : (S - 1) / 2 - p = 0 := by omega
    rw [hnone]
    rfl
  | succ fuel ih =>
    by_cases hend : S = 2 * p + 1
    · have hnone : (S - 1) / 2 - p = 0 := by omega
      have hdone : loopColumn S p < 1 := by
        unfold loopColumn
        split_ifs <;> omega
      rw [hnone, scanFrom, if_pos hdone]
      rfl
    · have hsome : (S - 1) / 2 - p = ((S - 1) / 2 - (p + 1)) + 1 := by omega
      have hmore : ¬loopColumn S p < 1 := by
        unfold loopColumn
        split_ifs <;> omega
      have hup : (!(p % 2 == 0)) = ((p + 1) % 2 == 0) := by
        rcases Nat.mod_two_eq_zero_or_one p with h | h <;> simp [Nat.add_mod, h]
      rw [scanFrom, if_neg hmore]
      simp only [skip_loopColumn hodd hp]
      rw [pairColumn_sub_two hodd (by omega), hup, ih (p + 1) (by omega) (by omega), hsome, List.range'_succ,
        List.flatMap_cons]

/-- The scan's cells, counted through (R173). -/
theorem scanOrder_eq {S : Nat} (hodd : S % 2 = 1) (hS : 7 ≤ S) :
    scanOrder S = (List.range (S * (S - 1))).map (scanCell S) := by
  have hfrom := scanFrom_eq hodd S 0 (by omega) (by omega)
  have hlen : (S - 1) / 2 * (2 * S) = S * (S - 1) := by
    obtain ⟨k, rfl⟩ : ∃ k, S = 2 * k + 1 := ⟨S / 2, by omega⟩
    rw [Nat.add_sub_cancel, Nat.mul_div_cancel_left k (by omega)]
    ring
  have hfirst : loopColumn S 0 = S - 1 := if_neg (by omega)
  rw [hfirst] at hfrom
  refine hfrom.trans ?_
  simp only [pairCells_eq, Nat.sub_zero, ← List.range_eq_range']
  rw [flatMap_range_map, hlen]
  refine List.map_congr_left fun j _ => ?_
  simp [scanCell, pairColumn]

/-- The pair of a column. -/
def pairOf (S c : Nat) : Nat := if c < 6 then (S - 2 - c) / 2 else (S - 1 - c) / 2

/-- The place of the cell (r, c) in the scan: its pair, its row counted along the pair's direction, its column. -/
def scanIndex (S r c : Nat) : Nat :=
  2 * S * pairOf S c + (2 * (if pairOf S c % 2 = 0 then S - 1 - r else r) + (pairColumn S (pairOf S c) - c))

theorem scanCell_eq {S p i : Nat} (hi : i < 2 * S) : scanCell S (2 * S * p + i) =
    (if p % 2 = 0 then S - 1 - i / 2 else i / 2, pairColumn S p - i % 2) := by
  have hparity : (2 * S * p + i) % 2 = i % 2 := by
    rw [Nat.mul_assoc]
    omega
  rw [scanCell, Nat.mul_add_div (by omega), Nat.div_eq_of_lt hi, Nat.add_zero, Nat.mul_add_mod_self_left,
    Nat.mod_eq_of_lt hi, hparity]
  rfl

section
variable {S : Nat} (hodd : S % 2 = 1) (hS : 7 ≤ S)
include hodd hS

/-- The cell of each place lies in the symbol and not in column 6, and names its place. -/
theorem scanIndex_scanCell {j : Nat} (hj : j < S * (S - 1)) :
    ((scanCell S j).1 < S ∧ (scanCell S j).2 < S ∧ (scanCell S j).2 ≠ 6) ∧
      scanIndex S (scanCell S j).1 (scanCell S j).2 = j := by
  obtain ⟨p, i, hi, rfl⟩ : ∃ p i, i < 2 * S ∧ j = 2 * S * p + i :=
    ⟨j / (2 * S), j % (2 * S), Nat.mod_lt _ (by omega), (Nat.div_add_mod _ _).symm⟩
  have hp : 2 * p + 1 < S := by
    have hlt : S * (2 * p) < S * (S - 1) := by linarith
    have := Nat.lt_of_mul_lt_mul_left hlt
    omega
  have hpair : pairOf S (pairColumn S p - i % 2) = p := by
    unfold pairOf pairColumn
    split_ifs <;> omega
  rw [scanCell_eq hi]
  refine ⟨?cell, ?index⟩
  case cell =>
    unfold pairColumn
    split_ifs <;> dsimp only <;> omega
  case index =>
    have hcol : 1 ≤ pairColumn S p := by
      unfold pairColumn
      split_ifs <;> omega
    simp only [scanIndex, hpair]
    split_ifs <;> omega

/-- Every cell of the symbol but those of column 6 has its place. -/
theorem scanCell_scanIndex {r c : Nat} (hr : r < S) (hc : c < S) (h6 : c ≠ 6) :
    scanIndex S r c < S * (S - 1) ∧ scanCell S (scanIndex S r c) = (r, c) := by
  have hlast : 2 * pairOf S c + 3 ≤ S := by
    unfold pairOf
    split_ifs <;> omega
  have hcol : c ≤ pairColumn S (pairOf S c) ∧ pairColumn S (pairOf S c) ≤ c + 1 := by
    unfold pairColumn pairOf
    split_ifs <;> omega
  rw [scanIndex]
  generalize pairOf S c = p at *
  have hi : 2 * (if p % 2 = 0 then S - 1 - r else r) + (pairColumn S p - c) < 2 * S := by
    split_ifs <;> omega
  refine ⟨?bound, ?cell⟩
  case bound =>
    have hpairs : S * (2 * p + 2) ≤ S * (S - 1) := Nat.mul_le_mul_left S (by omega)
    linarith
  case cell =>
    rw [scanCell_eq hi, Prod.mk.injEq]
    split_ifs <;> omega

theorem mem_scanOrder (r c : Nat) : (r, c) ∈ scanOrder S ↔ r < S ∧ c < S ∧ c ≠ 6 := by
  rw [scanOrder_eq hodd hS, List.mem_map]
  constructor
  · rintro ⟨j, hj, hcell⟩
    have hin := (scanIndex_scanCell hodd hS (List.mem_range.1 hj)).1
    rwa [hcell] at hin
  · rintro ⟨hr, hc, h6⟩
    obtain ⟨hlt, hcell⟩ := scanCell_scanIndex hodd hS hr hc h6
    exact ⟨_, List.mem_range.2 hlt, hcell⟩

theorem nodup_scanOrder : (scanOrder S).Nodup := by
  rw [scanOrder_eq hodd hS]
  refine List.nodup_range.map_on fun i hi j hj hcell => ?_
  rw [← (scanIndex_scanCell hodd hS (List.mem_range.1 hi)).2, hcell,
    (scanIndex_scanCell hodd hS (List.mem_range.1 hj)).2]

end

/-! ### Placement (R174 to R177) -/

theorem inverted_eq_maskInv {m : Nat} (hm : m < 8) (r c : Nat) : inverted m r c = maskInv m r c := by
  interval_cases m <;> rfl

section
variable (fill : RemainderFill) (reserved : Nat → Nat → Bool) (bit : Nat → Bool) (inv : Nat → Nat → Bool) (limit : Nat)

section
variable {r c k : Nat} (cells : List (Nat × Nat)) (dark : Plane)

theorem placeCells_reserved (hres : reserved r c = true) :
    placeCells fill reserved bit inv limit ((r, c) :: cells) k dark =
      placeCells fill reserved bit inv limit cells k dark := by
  rw [placeCells.eq_def]
  exact if_pos hres

variable (hres : ¬reserved r c = true)
include hres

theorem placeCells_bit (hk : k < limit) : placeCells fill reserved bit inv limit ((r, c) :: cells) k dark =
    placeCells fill reserved bit inv limit cells (k + 1) (Plane.put dark r c (bit k ^^ inv r c)) := by
  rw [placeCells.eq_def]
  exact (if_neg hres).trans (if_pos hk)

theorem placeCells_zeroMasked (hk : ¬k < limit) :
    placeCells .zeroMasked reserved bit inv limit ((r, c) :: cells) k dark =
      placeCells .zeroMasked reserved bit inv limit cells k (Plane.put dark r c (inv r c)) := by
  rw [placeCells.eq_def]
  exact (if_neg hres).trans (if_neg hk)

theorem placeCells_leave (hk : ¬k < limit) :
    placeCells .leave reserved bit inv limit ((r, c) :: cells) k dark = dark := by
  rw [placeCells.eq_def]
  exact (if_neg hres).trans (if_neg hk)

end

/-- Placement writes no cell that it does not visit, and none that is reserved. -/
theorem cell_placeCells_of_notMem {cells : List (Nat × Nat)} {r c : Nat}
    (h : (r, c) ∉ cells.filter fun cell => !reserved cell.1 cell.2) (k : Nat) (dark : Plane) :
    (placeCells fill reserved bit inv limit cells k dark).cell? r c = dark.cell? r c := by
  induction cells generalizing k dark with
  | nil => rfl
  | cons cell cells ih =>
    obtain ⟨r', c'⟩ := cell
    by_cases hres : reserved r' c' = true
    · rw [List.filter_cons_of_neg (by simp [hres])] at h
      rw [placeCells_reserved (hres := hres), ih h]
    rw [List.filter_cons_of_pos (by simp [hres]), List.mem_cons, not_or, Prod.mk.injEq] at h
    by_cases hk : k < limit
    · rw [placeCells_bit (hres := hres) (hk := hk), ih h.2, cell_put_ne _ _ h.1]
    · cases fill with
      | zeroMasked => rw [placeCells_zeroMasked (hres := hres) (hk := hk), ih h.2, cell_put_ne _ _ h.1]
      | leave => rw [placeCells_leave (hres := hres) (hk := hk)]

/-- The value that the cell with bit number `k` gets; none where it keeps its own. -/
def placedValue (k r c : Nat) : Option Bool :=
  if k < limit then some (bit k ^^ inv r c)
  else match fill with
    | .zeroMasked => some (inv r c)
    | .leave => none

theorem placedValue_of_lt {k : Nat} (hk : k < limit) (r c : Nat) :
    placedValue fill bit inv limit k r c = some (bit k ^^ inv r c) := if_pos hk

/-- After the last bit the values no longer depend on the count. -/
theorem placedValue_of_le {k k' : Nat} (hk : limit ≤ k) (hk' : limit ≤ k') (r c : Nat) :
    placedValue fill bit inv limit k r c = placedValue fill bit inv limit k' r c := by
  simp only [placedValue, Nat.not_lt.2 hk, Nat.not_lt.2 hk', if_false]

/-- A cell that is written and then not visited again holds what was written. -/
theorem cell_placeCells_put {cells : List (Nat × Nat)} {r c : Nat} (hnew : (r, c) ∉ cells) (hr : r < 177) (hc : c < 177)
    (k : Nat) (dark : Plane) (x : Bool) :
    (placeCells fill reserved bit inv limit cells k (Plane.put dark r c x)).cell? r c = some x := by
  rw [cell_placeCells_of_notMem fill reserved bit inv limit (fun h => hnew (List.mem_of_mem_filter h)), cell_put,
    if_pos ⟨rfl, rfl, hr, hc⟩]

/-- Of the cells that are not reserved, the i-th gets the i-th of the bits to come. -/
theorem cell_placeCells_of_getElem? {cells : List (Nat × Nat)} (hnodup : cells.Nodup)
    (hin : ∀ cell ∈ cells, cell.1 < 177 ∧ cell.2 < 177) {i r c : Nat}
    (h : (cells.filter fun cell => !reserved cell.1 cell.2)[i]? = some (r, c)) (k : Nat) (dark : Plane) :
    (placeCells fill reserved bit inv limit cells k dark).cell? r c =
      (placedValue fill bit inv limit (k + i) r c).or (dark.cell? r c) := by
  induction cells generalizing i k dark with
  | nil => simp at h
  | cons cell cells ih =>
    obtain ⟨r', c'⟩ := cell
    obtain ⟨hr', hc'⟩ := hin _ List.mem_cons_self
    have hin := fun cell hcell => hin cell (List.mem_cons_of_mem _ hcell)
    obtain ⟨hnew, hnodup⟩ := List.nodup_cons.1 hnodup
    by_cases hres : reserved r' c' = true
    · rw [List.filter_cons_of_neg (by simp [hres])] at h
      rw [placeCells_reserved (hres := hres), ih hnodup hin h]
    rw [List.filter_cons_of_pos (by simp [hres])] at h
    cases i with
    | zero =>
      obtain ⟨rfl, rfl⟩ := Prod.mk.injEq .. ▸ Option.some_inj.1 h
      have hput := cell_placeCells_put fill reserved bit inv limit hnew hr' hc'
      by_cases hk : k < limit
      · rw [placeCells_bit (hres := hres) (hk := hk), hput, Nat.add_zero, placedValue_of_lt _ _ _ _ hk, Option.some_or]
      · cases fill with
        | zeroMasked => simp [placeCells_zeroMasked (hres := hres) (hk := hk), hput, placedValue, hk]
        | leave => simp [placeCells_leave (hres := hres) (hk := hk), placedValue, hk]
    | succ i =>
      have hne : ¬(r = r' ∧ c = c') := by
        rintro ⟨rfl, rfl⟩
        exact hnew (List.mem_of_mem_filter (List.mem_of_getElem? h))
      by_cases hk : k < limit
      · rw [placeCells_bit (hres := hres) (hk := hk), ih hnodup hin h, cell_put_ne _ _ hne, Nat.add_assoc, Nat.add_comm 1]
      · have hvalue := placedValue_of_le fill bit inv limit (k := k + i) (k' := k + (i + 1)) (by omega) (by omega) r c
        cases fill with
        | zeroMasked =>
          rw [placeCells_zeroMasked (hres := hres) (hk := hk), ih hnodup hin h, cell_put_ne _ _ hne, hvalue]
        | leave => simp [placeCells_leave (hres := hres) (hk := hk), placedValue, show ¬k + (i + 1) < limit by omega]

/-- What placement leaves depends on RSV in the cells it visits, and on the bits it places. -/
theorem placeCells_congr {reserved' : Nat → Nat → Bool} {bit' : Nat → Bool} {cells : List (Nat × Nat)}
    (hres : ∀ cell ∈ cells, reserved' cell.1 cell.2 = reserved cell.1 cell.2) (hbit : ∀ k < limit, bit' k = bit k)
    (k : Nat) (dark : Plane) : placeCells fill reserved' bit' inv limit cells k dark =
      placeCells fill reserved bit inv limit cells k dark := by
  induction cells generalizing k dark with
  | nil => rfl
  | cons cell cells ih =>
    obtain ⟨r, c⟩ := cell
    have ih := ih fun cell hcell => hres cell (List.mem_cons_of_mem _ hcell)
    have hres : reserved' r c = reserved r c := hres _ List.mem_cons_self
    by_cases h : reserved r c = true
    · rw [placeCells_reserved (hres := h), placeCells_reserved (hres := hres.trans h), ih]
    have h' : ¬reserved' r c = true := hres ▸ h
    by_cases hk : k < limit
    · rw [placeCells_bit (hres := h) (hk := hk), placeCells_bit (hres := h') (hk := hk), hbit k hk, ih]
    · cases fill with
      | zeroMasked => rw [placeCells_zeroMasked (hres := h) (hk := hk), placeCells_zeroMasked (hres := h') (hk := hk), ih]
      | leave => rw [placeCells_leave (hres := h) (hk := hk), placeCells_leave (hres := h') (hk := hk)]

end

theorem placeBody_dark (g : Geometry) (s : State) : (placeBody g s).planes.dark =
    placeCells Config.remainderFill (readRsv s) (streamBit s) (maskInv s.cfg.mask.toNat) (8 * g.total)
      (scanOrder g.size) 0 s.planes.dark := rfl

/-- MX_PLACE writes the open cells only. -/
theorem placeBody_dark_of_notMem {g : Geometry} {s : State} {r c : Nat} (h : (r, c) ∉ openCells s g) :
    (placeBody g s).planes.dark.cell? r c = s.planes.dark.cell? r c := by
  rw [placeBody_dark]
  exact cell_placeCells_of_notMem _ _ _ _ _ h 0 _

section
variable {g : Geometry} (hg : GeometryBounds g)
include hg

theorem mem_scanOrder_size (r c : Nat) : (r, c) ∈ scanOrder g.size ↔ r < g.size ∧ c < g.size ∧ c ≠ 6 := by
  have hS := hg.size_eq
  exact mem_scanOrder (by omega) (by omega) r c

theorem nodup_scanOrder_size : (scanOrder g.size).Nodup := by
  have hS := hg.size_eq
  exact nodup_scanOrder (by omega) (by omega)

theorem mem_openCells (s : State) (r c : Nat) :
    (r, c) ∈ openCells s g ↔ (r < g.size ∧ c < g.size ∧ c ≠ 6) ∧ readRsv s r c = false := by
  rw [openCells, List.mem_filter, mem_scanOrder_size hg, Bool.not_eq_true']

/-- MX_PLACE gives the k-th open cell its k-th value. -/
theorem placeBody_dark_of_getElem? {s : State} {k r c : Nat} (h : (openCells s g)[k]? = some (r, c)) :
    (placeBody g s).planes.dark.cell? r c =
      (placedValue Config.remainderFill (streamBit s) (maskInv s.cfg.mask.toNat) (8 * g.total) k r c).or
        (s.planes.dark.cell? r c) := by
  have hin (cell : Nat × Nat) (hcell : cell ∈ scanOrder g.size) : cell.1 < 177 ∧ cell.2 < 177 := by
    have hS := hg.size_eq
    have hle := hg.version_le
    have hmem := (mem_scanOrder_size hg cell.1 cell.2).1 hcell
    omega
  rw [placeBody_dark, cell_placeCells_of_getElem? _ _ _ _ _ (nodup_scanOrder_size hg) hin h, Nat.zero_add]

end

/-- A bit of a written byte of SEQ (R175). -/
theorem streamBit_of_lookup {s : State} {k : Nat} {x : Byte} (h : s.mem.lookup (seqBase + k / 8) = some x) :
    streamBit s k = x.getLsbD (7 - k % 8) := by
  rw [streamBit, readByte_of_lookup h]

/-! ### MX_BUILD (R181, R183) -/

/-- The state in which MX_BUILD places the codewords. -/
def drawnBody (g : Geometry) (s : State) : State := verinfoBody g (templateBody g (clearBody s))

theorem buildBody_eq (g : Geometry) (s : State) : buildBody g s = formatBody g (placeBody g (drawnBody g s)) := rfl

/-- Nothing of what was in the planes before remains. -/
theorem drawnBody_planes (g : Geometry) (s : State) : (drawnBody g s).planes =
    (Planes.stamp ⟨Plane.filled false, Plane.filled false⟩ (templateStamps g.version g.size)).stamp
      (verinfoStamps g.version g.size) := rfl

/-- The cell belongs to the structure of the symbol: to the template or to the version information. -/
def isStructural (v S r c : Nat) : Bool := (templateCell v S r c).isSome || (verinfoCell v S r c).isSome

/-- Stamps leave a reserved cell reserved. -/
theorem stamp_rsv_of_reserved (p : Planes) (l : List Stamp) {r c : Nat} (h : p.rsv.cell? r c = some true) :
    (p.stamp l).rsv.cell? r c = some true := by
  by_cases hnamed : ∃ st ∈ l, st.row = r ∧ st.col = c
  · have hin : r < 177 ∧ c < 177 := by
      by_contra hout
      rw [cell_outside _ hout] at h
      contradiction
    exact cell_foldl_put_mem (fun _ => true) l p.rsv hin.1 hin.2 hnamed fun _ _ _ _ => rfl
  · rw [(stamp_notMem p l fun st hst hrc => hnamed ⟨st, hst, hrc⟩).2, h]

section
variable {g : Geometry} (hg : GeometryBounds g) (s : State)
include hg

/-- Before placement every cell is written, and reserved exactly where it belongs to the structure. -/
theorem drawnBody_rsv {r c : Nat} (hr : r ≤ 176) (hc : c ≤ 176) :
    (drawnBody g s).planes.rsv.cell? r c = some (isStructural g.version g.size r c) := by
  have htemplate := sets_templateStamps (version_lt hg) hg.size_eq
  have hverinfo := sets_verinfoStamps (version_lt hg) hg.size_eq
  rw [drawnBody_planes, isStructural]
  cases hcell : verinfoCell g.version g.size r c with
  | some x => rw [(hverinfo.stamp_some hcell _).2, Option.isSome_some, Bool.or_true]
  | none =>
    rw [(hverinfo.stamp_none hcell _).2, Option.isSome_none, Bool.or_false]
    cases hcell : templateCell g.version g.size r c with
    | some x => rw [(htemplate.stamp_some hcell _).2, Option.isSome_some]
    | none =>
      rw [(htemplate.stamp_none hcell _).2, Option.isSome_none]
      exact cell_filled false (by omega) (by omega)

/-- Before placement the cells outside the structure are Light. -/
theorem drawnBody_dark {r c : Nat} (hr : r ≤ 176) (hc : c ≤ 176) (h : isStructural g.version g.size r c = false) :
    (drawnBody g s).planes.dark.cell? r c = some false := by
  have htemplate := sets_templateStamps (version_lt hg) hg.size_eq
  have hverinfo := sets_verinfoStamps (version_lt hg) hg.size_eq
  simp only [isStructural, Bool.or_eq_false_iff, Option.isSome_eq_false_iff, Option.isNone_iff_eq_none] at h
  rw [drawnBody_planes, (hverinfo.stamp_none h.2 _).1, (htemplate.stamp_none h.1 _).1]
  exact cell_filled false (by omega) (by omega)

theorem readRsv_drawnBody {r c : Nat} (hr : r ≤ 176) (hc : c ≤ 176) :
    readRsv (drawnBody g s) r c = isStructural g.version g.size r c := by
  rw [readRsv, drawnBody_rsv hg s hr hc, Option.getD_some]

/-- What is written after placement was reserved before. -/
theorem isStructural_of_mem_formatStamps {copy2 : FormatCopy2} {code : Nat} {st : Stamp}
    (hst : st ∈ formatStamps copy2 code g.size) : isStructural g.version g.size st.row st.col = true := by
  have hS := hg.size_eq
  have hstrip : (st.row, st.col) ∈ strip1 ∨ (st.row, st.col) ∈ strip2 g.size ∨ (st.row, st.col) = (g.size - 8, 8) := by
    rw [strip1_eq_map, strip2_eq_map (by omega)]
    obtain ⟨i, hi, rfl | ⟨-, rfl⟩⟩ | rfl := (mem_formatStamps st).1 hst
    · exact .inl (List.mem_map_of_mem (List.mem_range.2 hi))
    · exact .inr (.inl (List.mem_map_of_mem (List.mem_range.2 hi)))
    · exact .inr (.inr rfl)
  have hcell := templateCell_reserve (version_lt hg) hg.size_eq
    ((mem_reserveStamps (by omega) ⟨st.row, st.col, false⟩).2 ⟨hstrip, rfl⟩)
  rw [isStructural, hcell, Option.isSome_some, Bool.true_or]

/-- MX_FORMAT changes nothing outside the structure. -/
theorem formatBody_of_not_structural {r c : Nat} (h : isStructural g.version g.size r c = false) :
    (formatBody g s).planes.dark.cell? r c = s.planes.dark.cell? r c ∧
      (formatBody g s).planes.rsv.cell? r c = s.planes.rsv.cell? r c := by
  refine stamp_notMem s.planes _ ?_
  rintro st hst ⟨rfl, rfl⟩
  rw [isStructural_of_mem_formatStamps hg hst] at h
  contradiction

/-- After MX_BUILD the structure is what is reserved. -/
theorem buildBody_rsv {r c : Nat} (hr : r ≤ 176) (hc : c ≤ 176) :
    (buildBody g s).planes.rsv.cell? r c = some (isStructural g.version g.size r c) := by
  have hdrawn : (placeBody g (drawnBody g s)).planes.rsv.cell? r c = some (isStructural g.version g.size r c) := by
    rw [placeBody_rsv, drawnBody_rsv hg s hr hc]
  rw [buildBody_eq]
  cases h : isStructural g.version g.size r c with
  | false => rw [(formatBody_of_not_structural hg _ h).2, hdrawn, h]
  | true => exact stamp_rsv_of_reserved _ _ (hdrawn.trans (by rw [h]))

theorem readRsv_buildBody {r c : Nat} (hr : r ≤ 176) (hc : c ≤ 176) :
    readRsv (buildBody g s) r c = isStructural g.version g.size r c := by
  rw [readRsv, buildBody_rsv hg s hr hc, Option.getD_some]

/-- A cell of the scan lies in the planes. -/
theorem le_of_mem_scanOrder {r c : Nat} (h : (r, c) ∈ scanOrder g.size) : r ≤ 176 ∧ c ≤ 176 := by
  have hS := hg.size_eq
  have hle := hg.version_le
  have hmem := (mem_scanOrder_size hg r c).1 h
  omega

/-- The cells MX_BUILD places codewords in: those outside the structure. -/
theorem openCells_drawnBody : openCells (drawnBody g s) g =
    (scanOrder g.size).filter fun cell => !isStructural g.version g.size cell.1 cell.2 :=
  List.filter_congr fun cell hcell => by
    obtain ⟨hr, hc⟩ := le_of_mem_scanOrder hg hcell
    rw [readRsv_drawnBody hg s hr hc]

theorem openCells_buildBody : openCells (buildBody g s) g =
    (scanOrder g.size).filter fun cell => !isStructural g.version g.size cell.1 cell.2 :=
  List.filter_congr fun cell hcell => by
    obtain ⟨hr, hc⟩ := le_of_mem_scanOrder hg hcell
    rw [readRsv_buildBody hg s hr hc]

/-- Past the last bit, an open cell stays Light under LEAVE. -/
theorem buildBody_dark_of_leave (hleave : Config.remainderFill = .leave) {k r c : Nat} (hk : 8 * g.total ≤ k)
    (h : (openCells (buildBody g s) g)[k]? = some (r, c)) : (buildBody g s).planes.dark.cell? r c = some false := by
  have hopen : (openCells (drawnBody g s) g)[k]? = some (r, c) := by
    rw [openCells_drawnBody hg, ← openCells_buildBody hg s, h]
  obtain ⟨hscan, hfree⟩ := List.mem_filter.1 (openCells_buildBody hg s ▸ List.mem_of_getElem? h)
  obtain ⟨hr, hc⟩ := le_of_mem_scanOrder hg hscan
  have hfree : isStructural g.version g.size r c = false := by simpa using hfree
  rw [buildBody_eq, (formatBody_of_not_structural hg _ hfree).1, placeBody_dark_of_getElem? hg hopen,
    drawnBody_dark hg s hr hc hfree, hleave]
  simp [placedValue, Nat.not_lt.2 hk]

/-- Outside the symbol no cell belongs to the structure. -/
theorem isStructural_outside {r c : Nat} (h : g.size ≤ r ∨ g.size ≤ c) : isStructural g.version g.size r c = false := by
  have hS := hg.size_eq
  rw [isStructural, templateCell_outside (by omega)]
  cases hcell : verinfoCell g.version g.size r c with
  | none => rfl
  | some x =>
    obtain ⟨-, i, hi, hblock⟩ := verinfoCell_eq_some (by omega) hcell
    omega

theorem buildBody_dark_outside {r c : Nat} (hr : r ≤ 176) (hc : c ≤ 176) (h : g.size ≤ r ∨ g.size ≤ c) :
    (buildBody g s).planes.dark.cell? r c = some false := by
  have hfree := isStructural_outside hg h
  have hopen : (r, c) ∉ openCells (drawnBody g s) g := fun hmem => by
    have hin := ((mem_openCells hg _ r c).1 hmem).1
    omega
  rw [buildBody_eq, (formatBody_of_not_structural hg _ hfree).1, placeBody_dark_of_notMem hopen,
    drawnBody_dark hg s hr hc hfree]

end

/-- A bit of SEQ does not depend on the draw where its byte is written. -/
theorem streamBit_congr {s s' : State} {k : Nat} (hw : (s.mem.lookup (seqBase + k / 8)).isSome = true)
    (h : s'.mem.lookup (seqBase + k / 8) = s.mem.lookup (seqBase + k / 8)) : streamBit s' k = streamBit s k := by
  obtain ⟨x, hx⟩ := Option.isSome_iff_exists.1 hw
  rw [streamBit_of_lookup hx, streamBit_of_lookup (h.trans hx)]

@[simp] theorem drawnBody_cfg (g : Geometry) (s : State) : (drawnBody g s).cfg = s.cfg := by
  simp [drawnBody]

@[simp] theorem drawnBody_mem (g : Geometry) (s : State) : (drawnBody g s).mem = s.mem := by
  simp [drawnBody]

/-- Placement and format information depend on CFG, the planes, and what MX_PLACE reads. -/
theorem formatBody_placeBody_congr {g : Geometry} {s s' : State} (hcfg : s'.cfg = s.cfg) (hplanes : s'.planes = s.planes)
    (hres : ∀ cell ∈ scanOrder g.size, readRsv s' cell.1 cell.2 = readRsv s cell.1 cell.2)
    (hbit : ∀ k < 8 * g.total, streamBit s' k = streamBit s k) :
    (formatBody g (placeBody g s')).planes = (formatBody g (placeBody g s)).planes := by
  have hdark : (placeBody g s').planes.dark = (placeBody g s).planes.dark := by
    rw [placeBody_dark, placeBody_dark, hcfg, hplanes]
    exact placeCells_congr _ _ _ _ _ hres hbit 0 _
  have hplaced : (placeBody g s').planes = (placeBody g s).planes :=
    congrArg₂ Planes.mk hdark (congrArg Planes.rsv hplanes)
  rw [formatBody_planes, formatBody_planes, hplaced, placeBody_cfg, placeBody_cfg, hcfg]

/-! ### The structure as rectangles (R160, R183) -/

/-- A rectangle of cells: its first row and column, its height and width. -/
structure Rect where
  row    : Nat
  col    : Nat
  height : Nat
  width  : Nat

def Rect.cells (b : Rect) : List (Nat × Nat) := List.range' b.row b.height ×ˢ List.range' b.col b.width

def Rect.area (b : Rect) : Nat := b.height * b.width

/-- The rectangles do not meet: one lies above the other or left of it. A test, for the rectangles of every version. -/
def Rect.apart (a b : Rect) : Bool :=
  Nat.ble (a.row + a.height) b.row || Nat.ble (b.row + b.height) a.row || Nat.ble (a.col + a.width) b.col ||
    Nat.ble (b.col + b.width) a.col

theorem Rect.mem_cells (b : Rect) (r c : Nat) : (r, c) ∈ b.cells ↔
    (b.row ≤ r ∧ r < b.row + b.height) ∧ b.col ≤ c ∧ c < b.col + b.width := by
  rw [Rect.cells, List.mem_product, List.mem_range'_1, List.mem_range'_1]

theorem Rect.length_cells (b : Rect) : b.cells.length = b.area := by
  rw [Rect.cells, List.length_product, List.length_range', List.length_range', Rect.area]

theorem Rect.nodup_cells (b : Rect) : b.cells.Nodup := (List.nodup_range').product List.nodup_range'

theorem Rect.disjoint_cells {a b : Rect} (h : a.apart b = true) : a.cells.Disjoint b.cells := by
  rintro ⟨r, c⟩ ha hb
  rw [Rect.mem_cells] at ha hb
  simp only [Rect.apart, Bool.or_eq_true, Nat.ble_eq] at h
  omega

/-- Of the rectangles of a list no two meet. -/
def rectsApart : List Rect → Bool
  | [] => true
  | b :: bs => bs.all b.apart && rectsApart bs

/-- The cells of rectangles that do not meet, each once. -/
theorem nodup_flatMap_cells {bs : List Rect} (h : rectsApart bs = true) : (bs.flatMap Rect.cells).Nodup := by
  induction bs with
  | nil => exact List.nodup_nil
  | cons b bs ih =>
    obtain ⟨hb, hbs⟩ := (Bool.and_eq_true ..).mp h
    rw [List.flatMap_cons, List.nodup_append']
    refine ⟨b.nodup_cells, ih hbs, fun cell hcell hcells => ?_⟩
    obtain ⟨b', hb', hcell'⟩ := List.mem_flatMap.1 hcells
    exact Rect.disjoint_cells (List.all_eq_true.1 hb b' hb') hcell hcell'

/-- The finders as rectangles. -/
def finderRects (S : Nat) : List Rect := [⟨0, 0, 8, 8⟩, ⟨0, S - 8, 8, 8⟩, ⟨S - 8, 0, 8, 8⟩]

/-- The timing lines as rectangles. -/
def timingRects (S : Nat) : List Rect := [⟨6, 8, 1, S - 16⟩, ⟨8, 6, S - 16, 1⟩]

/-- The format strips and the dark module as rectangles. -/
def formatRects (S : Nat) : List Rect :=
  [⟨0, 8, 6, 1⟩, ⟨7, 8, 2, 1⟩, ⟨8, 7, 1, 1⟩, ⟨8, 0, 1, 6⟩, ⟨8, S - 8, 1, 8⟩, ⟨S - 8, 8, 8, 1⟩]

/-- An alignment pattern, without the line of its cells that lies on a timing line. -/
def alignmentRects (f : Nat × Nat) : List Rect :=
  if f.1 = 6 then [⟨4, f.2 - 2, 2, 5⟩, ⟨7, f.2 - 2, 2, 5⟩]
  else if f.2 = 6 then [⟨f.1 - 2, 4, 5, 2⟩, ⟨f.1 - 2, 7, 5, 2⟩]
  else [⟨f.1 - 2, f.2 - 2, 5, 5⟩]

/-- The version information as rectangles. -/
def verinfoRects (v S : Nat) : List Rect := if 7 ≤ v then [⟨0, S - 11, 6, 3⟩, ⟨S - 11, 0, 3, 6⟩] else []

/-- The pairs of coordinates of ALIGN[v] but for the three corners with a finder. -/
def drawnPairs (v S : Nat) : List (Nat × Nat) :=
  ((alignOf v).flatMap fun ar => (alignOf v).map fun ac => (ar, ac)).filter fun f =>
    ¬(f = (6, 6) ∨ f = (6, S - 7) ∨ f = (S - 7, 6))

/-- The structure of a symbol cut into rectangles. -/
def structureRects (v S : Nat) : List Rect :=
  finderRects S ++ timingRects S ++ formatRects S ++ (drawnPairs v S).flatMap alignmentRects ++ verinfoRects v S

/-- The rectangles of a version do not meet. -/
theorem rectsApart_structureRects : ∀ v < 41, 1 ≤ v → rectsApart (structureRects v (21 + 4 * (v - 1))) = true := by
  decide +kernel

/-- The rectangles of a version leave RAW cells. -/
theorem area_structureRects : ∀ v < 41, ∀ row ∈ structRow v,
    ((structureRects v row.size).map Rect.area).sum + row.raw = row.size * row.size := by
  decide +kernel

theorem plainCell_isSome_iff {S : Nat} (hS : 15 ≤ S) (r c : Nat) : (plainCell S r c).isSome = true ↔
    ((r = 6 ∧ 8 ≤ c ∧ c + 8 < S) ∨ (c = 6 ∧ 8 ≤ r ∧ r + 8 < S)) ∨
      (r, c) ∈ strip1 ∨ (r, c) ∈ strip2 S ∨ (r, c) = (S - 8, 8) := by
  unfold plainCell
  split_ifs with hrow hcol hstrip
  · exact iff_of_true rfl (.inl (by omega))
  · exact iff_of_true rfl (.inl (by omega))
  · exact iff_of_true rfl (.inr hstrip)
  · refine iff_of_false Bool.false_ne_true ?_
    rintro (hline | hcell)
    · omega
    · exact hstrip hcell

/-! Which cells the rectangles of each group have. -/

theorem mem_finderRects {S : Nat} (hS : 21 ≤ S) (r c : Nat) : (∃ b ∈ finderRects S, (r, c) ∈ b.cells) ↔
    (r < S ∧ c < S) ∧ inFinderZone S r c = true := by
  rw [inFinderZone_iff (by omega)]
  simp only [finderRects, List.mem_cons, List.not_mem_nil, or_false, exists_eq_or_imp, exists_eq_left, Rect.mem_cells]
  omega

theorem mem_timingRects {S : Nat} (hS : 21 ≤ S) (r c : Nat) : (∃ b ∈ timingRects S, (r, c) ∈ b.cells) ↔
    (r = 6 ∧ 8 ≤ c ∧ c + 8 < S) ∨ (c = 6 ∧ 8 ≤ r ∧ r + 8 < S) := by
  simp only [timingRects, List.mem_cons, List.not_mem_nil, or_false, exists_eq_or_imp, exists_eq_left, Rect.mem_cells]
  omega

theorem mem_formatRects {S : Nat} (hS : 21 ≤ S) (r c : Nat) : (∃ b ∈ formatRects S, (r, c) ∈ b.cells) ↔
    (r, c) ∈ strip1 ∨ (r, c) ∈ strip2 S ∨ (r, c) = (S - 8, 8) := by
  rw [mem_strip1, mem_strip2 (by omega), Prod.mk.injEq]
  simp only [formatRects, List.mem_cons, List.not_mem_nil, or_false, exists_eq_or_imp, exists_eq_left, Rect.mem_cells]
  omega

theorem mem_verinfoRects {v S : Nat} (hS : 21 ≤ S) (r c : Nat) : (∃ b ∈ verinfoRects v S, (r, c) ∈ b.cells) ↔
    (verinfoCell v S r c).isSome = true := by
  unfold verinfoRects verinfoCell
  split_ifs <;>
    simp only [List.mem_cons, List.not_mem_nil, or_false, exists_eq_or_imp, exists_eq_left, Rect.mem_cells,
      Option.isSome_some, Option.isSome_none, iff_true, false_and, exists_false, Bool.false_eq_true, iff_false] <;>
    omega

theorem mem_alignmentRects {f : Nat × Nat} (hr : 2 ≤ f.1) (hc : 2 ≤ f.2) (r c : Nat) :
    (∃ b ∈ alignmentRects f, (r, c) ∈ b.cells) ↔
      ringOf f.1 f.2 r c ≤ 2 ∧ ¬(f.1 = 6 ∧ r = 6) ∧ ¬(f.1 ≠ 6 ∧ f.2 = 6 ∧ c = 6) := by
  rw [ringOf_le_iff]
  unfold alignmentRects
  split_ifs <;>
    simp only [List.mem_cons, List.not_mem_nil, or_false, exists_eq_or_imp, exists_eq_left, Rect.mem_cells] <;>
    omega

theorem mem_drawnPairs {v : Nat} (hv : v < 41) (f : Nat × Nat) : f ∈ drawnPairs v (21 + 4 * (v - 1)) ↔
    f ∈ alignmentCentres v (21 + 4 * (v - 1)) := by
  obtain ⟨ar, ac⟩ := f
  have hgrid : (ar, ac) ∈ ((alignOf v).flatMap fun ar => (alignOf v).map fun ac => (ar, ac)) ↔
      ar ∈ alignOf v ∧ ac ∈ alignOf v := by simp
  rw [mem_alignmentCentres hv, drawnPairs, List.mem_filter, hgrid, decide_eq_true_iff, and_assoc]

section
variable {v S : Nat} (hv : v < 41) (hS : S = 21 + 4 * (v - 1))
include hv hS

theorem templateCell_isSome_iff (r c : Nat) : (templateCell v S r c).isSome = true ↔
    ((r < S ∧ c < S) ∧ inFinderZone S r c = true) ∨ (∃ f ∈ alignmentCentres v S, ringOf f.1 f.2 r c ≤ 2) ∨
      (plainCell S r c).isSome = true := by
  have hplain := plainCell_isSome_iff (show 15 ≤ S by omega) r c
  rw [mem_strip1, mem_strip2 (by omega), Prod.mk.injEq] at hplain
  by_cases hin : r < S ∧ c < S
  · by_cases hzone : inFinderZone S r c = true
    · obtain ⟨f, hf, hring⟩ := (inFinderZone_iff_ringOf ..).1 hzone
      rw [templateCell_finder (by omega) hin hf hring]
      exact iff_of_true rfl (.inl ⟨hin, hzone⟩)
    · by_cases halign : ∃ f ∈ alignmentCentres v S, ringOf f.1 f.2 r c ≤ 2
      · obtain ⟨f, hf, hring⟩ := halign
        rw [templateCell_alignment hv hin hzone hf hring]
        exact iff_of_true rfl (.inr (.inl ⟨f, hf, hring⟩))
      · rw [templateCell_plain hin hzone (by simpa using halign)]
        simp only [hzone, halign, Bool.false_eq_true, and_false, false_or]
  · rw [templateCell_outside hin]
    refine iff_of_false Bool.false_ne_true ?_
    rintro (⟨hin', -⟩ | ⟨f, hf, hring⟩ | hcell)
    · exact hin hin'
    · exact hin (footprint_clear hv hS hf hring).1
    · rw [hplain] at hcell
      omega

/-- The alignment rectangles are the patterns without what lies on the timing lines. -/
theorem mem_alignmentRects_drawnPairs (r c : Nat) :
    (∃ b ∈ (drawnPairs v S).flatMap alignmentRects, (r, c) ∈ b.cells) ↔ ∃ f ∈ alignmentCentres v S,
      ringOf f.1 f.2 r c ≤ 2 ∧ ¬(f.1 = 6 ∧ r = 6) ∧ ¬(f.1 ≠ 6 ∧ f.2 = 6 ∧ c = 6) := by
  subst hS
  simp only [List.mem_flatMap, mem_drawnPairs hv]
  constructor
  · rintro ⟨b, ⟨f, hf, hb⟩, hcell⟩
    have hbounds := alignmentCentre_bounds hv hf
    exact ⟨f, hf, (mem_alignmentRects (by omega) (by omega) r c).1 ⟨b, hb, hcell⟩⟩
  · rintro ⟨f, hf, hring⟩
    have hbounds := alignmentCentre_bounds hv hf
    obtain ⟨b, hb, hcell⟩ := (mem_alignmentRects (by omega) (by omega) r c).2 hring
    exact ⟨b, ⟨f, hf, hb⟩, hcell⟩

/-- The rectangles cover the structure: what the alignment rectangles leave out, the timing lines have. -/
theorem mem_structureRects (r c : Nat) :
    (r, c) ∈ (structureRects v S).flatMap Rect.cells ↔ isStructural v S r c = true := by
  have hside : 21 ≤ S := by omega
  rw [List.mem_flatMap]
  simp only [structureRects, List.mem_append, or_and_right, exists_or, isStructural, Bool.or_eq_true]
  rw [mem_finderRects hside, mem_timingRects hside, mem_formatRects hside, mem_verinfoRects hside,
    mem_alignmentRects_drawnPairs hv hS, templateCell_isSome_iff hv hS, plainCell_isSome_iff (by omega)]
  refine or_congr_left ⟨?_, ?_⟩
  · rintro (((hfinder | htiming) | hformat) | ⟨f, hf, hring, -⟩)
    · exact .inl hfinder
    · exact .inr (.inr (.inl htiming))
    · exact .inr (.inr (.inr hformat))
    · exact .inr (.inl ⟨f, hf, hring⟩)
  · rintro (hfinder | ⟨f, hf, hring⟩ | htiming | hformat)
    · exact .inl (.inl (.inl hfinder))
    · by_cases hline : (f.1 = 6 ∧ r = 6) ∨ (f.1 ≠ 6 ∧ f.2 = 6 ∧ c = 6)
      · subst hS
        have hbounds := alignmentCentre_bounds hv hf
        rw [ringOf_le_iff] at hring
        exact .inl (.inl (.inr (by omega)))
      · exact .inr ⟨f, hf, hring, (not_or.1 hline).1, (not_or.1 hline).2⟩
    · exact .inl (.inl (.inr htiming))
    · exact .inl (.inr hformat)

end

/-! ### How many cells are reserved (R130, R183) -/

/-- The cells of a symbol of side S. -/
def symbolCells (S : Nat) : List (Nat × Nat) := List.range S ×ˢ List.range S

theorem mem_symbolCells (S r c : Nat) : (r, c) ∈ symbolCells S ↔ r < S ∧ c < S := by
  rw [symbolCells, List.mem_product, List.mem_range, List.mem_range]

theorem nodup_symbolCells (S : Nat) : (symbolCells S).Nodup := List.nodup_range.product List.nodup_range

theorem length_symbolCells (S : Nat) : (symbolCells S).length = S * S := by
  rw [symbolCells, List.length_product, List.length_range]

theorem reservedCount_eq_countP (t : State) (S : Nat) :
    reservedCount t S = (symbolCells S).countP fun cell => t.planes.rsv.cell? cell.1 cell.2 == some true := by
  have hcells : symbolCells S = (List.range S).flatMap fun r => (List.range S).map (Prod.mk r) := rfl
  rw [hcells, List.countP_flatMap]
  simp only [Function.comp_def, List.countP_map]
  rfl

section
variable {g : Geometry} (hg : GeometryBounds g)
include hg

/-- The structure has as many cells as its rectangles. -/
theorem countP_isStructural : ((symbolCells g.size).countP fun cell => isStructural g.version g.size cell.1 cell.2) =
    ((structureRects g.version g.size).map Rect.area).sum := by
  have hapart := rectsApart_structureRects g.version (version_lt hg) hg.version_pos
  rw [← hg.size_eq] at hapart
  have hperm : ((symbolCells g.size).filter fun cell => isStructural g.version g.size cell.1 cell.2).Perm
      ((structureRects g.version g.size).flatMap Rect.cells) := by
    refine (List.perm_ext_iff_of_nodup ((nodup_symbolCells _).filter _) (nodup_flatMap_cells hapart)).2 fun ⟨r, c⟩ => ?_
    rw [List.mem_filter, mem_structureRects (version_lt hg) hg.size_eq, mem_symbolCells]
    refine and_iff_right_of_imp fun hcell => ?_
    by_contra hout
    rw [isStructural_outside hg (by omega)] at hcell
    contradiction
  rw [List.countP_eq_length_filter, hperm.length_eq, List.length_flatMap]
  exact congrArg List.sum (List.map_congr_left fun b _ => b.length_cells)

/-- Column 6 is two finders and a timing line. -/
theorem isStructural_column6 {r : Nat} (hr : r < g.size) : isStructural g.version g.size r 6 = true := by
  have hS := hg.size_eq
  rw [isStructural, Bool.or_eq_true, templateCell_isSome_iff (version_lt hg) hS,
    inFinderZone_iff (by omega), plainCell_isSome_iff (by omega)]
  by_cases hline : 8 ≤ r ∧ r + 8 < g.size
  · exact .inl (.inr (.inr (.inl (.inr ⟨rfl, hline⟩))))
  · exact .inl (.inl (by omega))

/-- The cells of the scan outside the structure are all of those of the symbol, for column 6 belongs to the structure. -/
theorem length_open : ((scanOrder g.size).filter fun cell => !isStructural g.version g.size cell.1 cell.2).length =
    (symbolCells g.size).countP fun cell => !isStructural g.version g.size cell.1 cell.2 := by
  rw [List.countP_eq_length_filter]
  refine List.Perm.length_eq ((List.perm_ext_iff_of_nodup ((nodup_scanOrder_size hg).filter _)
    ((nodup_symbolCells _).filter _)).2 fun ⟨r, c⟩ => ?_)
  rw [List.mem_filter, List.mem_filter, mem_scanOrder_size hg, mem_symbolCells]
  refine and_congr_left fun hfree => ⟨fun hin => ⟨hin.1, hin.2.1⟩, fun hin => ⟨hin.1, hin.2, ?_⟩⟩
  rintro rfl
  simp [isStructural_column6 hg hin.1] at hfree

theorem reservedCount_buildBody (s : State) : reservedCount (buildBody g s) g.size =
    (symbolCells g.size).countP fun cell => isStructural g.version g.size cell.1 cell.2 := by
  rw [reservedCount_eq_countP]
  refine List.countP_congr fun ⟨r, c⟩ hcell => ?_
  have hin := (mem_symbolCells ..).1 hcell
  have hS := hg.size_eq
  have hle := hg.version_le
  rw [buildBody_rsv hg s (by omega) (by omega), beq_iff_eq, Option.some_inj]

end

/-- The row of STRUCT that CFG selects; RAW counts the bits of the codewords and the remainder (R130). -/
theorem structRow_of_geometry {cfg : Cfg} {g : Geometry} (h : geometry cfg = some g) :
    ∃ row, structRow g.version = some row ∧ row.size = g.size ∧ row.raw = 8 * g.total + g.rem := by
  have hg := bounds_of_geometry h
  obtain ⟨row, hrow, hgeometry⟩ := Option.map_eq_some_iff.1 h
  obtain ⟨row', hrow', htotal, hrem, hdata⟩ :=
    structRow_matches g.version (version_lt hg) hg.version_pos cfg.level (mem_levels _)
  have hdata9 := hg.data_ge
  subst hgeometry
  obtain rfl : row = row' := Option.some_inj.1 (hrow.symm.trans hrow')
  refine ⟨row, hrow, rfl, ?_⟩
  rw [Geometry.total]
  dsimp only at hdata9 ⊢
  omega

/-! ### The obligations -/

/-- Settles O43: a filled plane holds its value everywhere, and the window shows the planes. -/
theorem clearMakesEveryCellLight : Obligations.ClearMakesEveryCellLight := by
  intro s
  have hcell (r : Nat) (hr : r ≤ 176) (c : Nat) (hc : c ≤ 176) := clearBody_cell s hr hc
  refine ⟨_, exec_mxClear s, hcell, fun off hoff => ?window, clearBody_mem s, endsDone_setPlanes _ s⟩
  case window => exact hostRead_matrix_eq_zero (t := (clearBody s).finish) rfl hcell hoff

/-- Settles O44: the stamps of the template set exactly the cells of `templateCell`. -/
theorem templateCellByCell : Obligations.TemplateCellByCell := by
  intro s g h
  have hg := bounds_of_geometry h
  have hsets := sets_templateStamps (version_lt hg) hg.size_eq
  refine ⟨_, exec_mxTemplate h, fun r c => ?_, templateBody_mem g s, endsDone_setPlanes _ s⟩
  split
  · next x hx => exact hsets.stamp_some hx _
  · next hn => exact hsets.stamp_none hn _

/-- Settles O45: a footprint meets a finder zone at these three corners only. -/
theorem alignmentSkipsThreePairs : Obligations.AlignmentSkipsThreePairs := by
  intro v _ hv ar ac
  rw [mem_alignmentCentres (by omega), not_or, not_or]

/-- Settles O46: the stamps of the version information set exactly the cells of `verinfoCell`. -/
theorem verinfoCellByCell : Obligations.VerinfoCellByCell := by
  intro s g h
  have hg := bounds_of_geometry h
  have hsets := sets_verinfoStamps (version_lt hg) hg.size_eq
  refine ⟨_, exec_mxVerinfo h, fun r c => ?_, fun h7 => verinfoBody_planes_of_lt h7 s, verinfoBody_mem g s,
    endsDone_setPlanes _ s⟩
  split
  · next x hx => exact hsets.stamp_some hx _
  · next hn => exact hsets.stamp_none hn _

/-- Settles O47: the scan is the closed form counted through, and a cell's place can be told from the cell. -/
theorem scanVisitsEachCellOnce : Obligations.ScanVisitsEachCellOnce := by
  intro v _ _
  have hodd : (21 + 4 * (v - 1)) % 2 = 1 := by omega
  have hlast : 20 + 4 * (v - 1) = 21 + 4 * (v - 1) - 1 := by omega
  rw [hlast]
  refine ⟨nodup_scanOrder hodd (by omega), mem_scanOrder hodd (by omega), ?_⟩
  rw [scanOrder_eq hodd (by omega)]
  refine ⟨by simp, fun j hj => ?_⟩
  rw [List.getElem?_map, List.getElem?_range hj, Option.map_some]

/-- Settles O48: the scan visits no cell twice, so the k-th open cell keeps what it gets. -/
theorem placementPutsBitsInScanOrder : Obligations.PlacementPutsBitsInScanOrder := by
  intro s g h
  have hg := bounds_of_geometry h
  refine ⟨_, exec_mxPlace h, fun k r c hk => ?_, fun k x hx => streamBit_of_lookup hx⟩
  rw [finish_planes, placeBody_dark_of_getElem? hg hk, inverted_eq_maskInv s.cfg.mask.isLt]
  by_cases hlt : k < 8 * g.total
  · rw [placedValue_of_lt _ _ _ _ hlt, if_pos hlt, Option.some_or]
  · simp only [placedValue, if_neg hlt]
    cases Config.remainderFill <;> rfl

/-- Settles O49: the cells named are not open. -/
theorem placementLeavesReservedCellsAlone : Obligations.PlacementLeavesReservedCellsAlone := by
  intro s g h
  have hg := bounds_of_geometry h
  refine ⟨_, exec_mxPlace h, placeBody_rsv g s, fun r c hcell => ?kept, placeBody_mem g s, ?frame⟩
  case kept =>
    refine placeBody_dark_of_notMem fun hopen => ?_
    obtain ⟨⟨hr, hc, h6⟩, hrsv⟩ := (mem_openCells hg s r c).1 hopen
    rcases hcell with hres | hout
    · simp [readRsv, hres] at hrsv
    · omega
  case frame => simp [EndsDone, KeepsRegisters]

/-- Settles O50: stamps that share a cell agree, so each sets its cell, and setting all again changes nothing. -/
theorem formatWritesTheCode : Obligations.FormatWritesTheCode := by
  intro s g h
  have hg := bounds_of_geometry h
  refine ⟨_, exec_mxFormat h, fun i r c hi => formatBody_copy1 hg s hi,
    fun hcopy i r c hi => formatBody_copy2 hg s hcopy hi, (formatBody_darkModule hg s).1, (formatBody_darkModule hg s).2,
    fun r c h1 hmodule h2 => formatBody_other hg s h1 hmodule h2, formatBody_mem g s, endsDone_setPlanes _ s, _,
    exec_mxFormat (g := g) (by simpa using h), ?_⟩
  simpa using formatBody_formatBody hg s

/-- Settles O51: the end of each command changes nothing that the next one reads, so the ends between them do not show. -/
theorem buildIsFiveCommands : Obligations.BuildIsFiveCommands := by
  intro s g h
  refine ⟨_, _, _, _, _, exec_mxClear s, exec_mxTemplate (g := g) ?_, exec_mxVerinfo (g := g) ?_,
    exec_mxPlace (g := g) ?_, exec_mxFormat (g := g) ?_, ?build⟩
  case build => simp [exec_mxBuild h, buildBody]
  all_goals simpa using h

/-- Settles O52: MX_BUILD goes on from what RS_ENCODE leaves, and leaves the buffers. -/
theorem qrEncodeIsEncodeThenBuild : Obligations.QrEncodeIsEncodeThenBuild := by
  intro s g h
  have hg := bounds_of_geometry h
  refine ⟨_, _, exec_rsEncode h, exec_mxBuild (g := g) (by simpa using h), ?build, fun a ha => ?mem, ?frame⟩
  case build => rw [exec_qrEncode h, encodeBody, buildBody_finish, finish_finish]
  case mem =>
    rw [finish_mem, buildBody_mem, finish_mem]
    exact lookup_encodeBody_outside hg s ha
  case frame => simp [EndsDone, KeepsRegisters]

/-- Settles O53: MX_BUILD places into planes that do not depend on the state, and reads written bytes of SEQ only. -/
theorem buildDependsOnlyOnConfigAndSeq : Obligations.BuildDependsOnlyOnConfigAndSeq := by
  intro s s' g h hcfg hseq hmem
  have hg := bounds_of_geometry h
  refine ⟨_, _, exec_mxBuild h, exec_mxBuild (hcfg ▸ h), ?_⟩
  rw [finish_planes, finish_planes, buildBody_eq, buildBody_eq]
  refine formatBody_placeBody_congr (by simpa using hcfg) (by rw [drawnBody_planes, drawnBody_planes])
    (fun cell hcell => ?rsv) fun k hk => ?bit
  case rsv =>
    obtain ⟨hr, hc⟩ := le_of_mem_scanOrder hg hcell
    rw [readRsv_drawnBody hg s' hr hc, readRsv_drawnBody hg s hr hc]
  case bit => exact streamBit_congr (by simpa using hseq _ (by omega)) (by simpa using hmem _ (by omega))

/-- Settles O54: what is written after the structure is drawn reserves nothing else, and the structure is rectangles that
do not meet and leave RAW cells. -/
theorem buildReservesExactlyTheStructure : Obligations.BuildReservesExactlyTheStructure := by
  intro s g h
  have hg := bounds_of_geometry h
  obtain ⟨row, hrow, hsize, hraw⟩ := structRow_of_geometry h
  have harea := area_structureRects g.version (version_lt hg) row hrow
  rw [hsize, ← countP_isStructural hg] at harea
  refine ⟨_, exec_mxBuild h, fun r hr c hc => buildBody_rsv hg s hr hc, ⟨row, hrow, hraw, ?reserved⟩, ?opened,
    fun hleave k r c hk hopen => buildBody_dark_of_leave hg s hleave hk hopen, fun i r c hi => ?copy1,
    fun hcopy i r c hi => ?copy2, ?module, fun r hr c hc hout => buildBody_dark_outside hg s hr hc hout⟩
  case reserved =>
    have hcount : reservedCount (buildBody g s).finish g.size = _ := reservedCount_buildBody hg s
    omega
  case opened =>
    have hopen : openCells (buildBody g s).finish g = _ := openCells_buildBody hg s
    have htotal := List.length_eq_countP_add_countP (fun cell => isStructural g.version g.size cell.1 cell.2)
      (l := symbolCells g.size)
    rw [length_symbolCells] at htotal
    rw [hopen, length_open hg]
    simp only [Bool.not_eq_true, Bool.decide_eq_false] at htotal
    omega
  case copy1 => simpa [buildBody_eq] using (formatBody_copy1 hg (placeBody g (drawnBody g s)) hi).1
  case copy2 => simpa [buildBody_eq] using (formatBody_copy2 hg (placeBody g (drawnBody g s)) hcopy hi).1
  case module => exact (formatBody_darkModule hg _).1

/-- Settles O55: each table entry is its formula's value. -/
theorem tablesMatchTheirFormulas : Obligations.TablesMatchTheirFormulas := by
  refine ⟨fun v hlo hhi => alignOf_eq_alignClosedForm v (by omega) hlo,
    fun v hlo hhi => verinfoOf_eq_bch v (by omega) hlo, fun l m hm => formatOf_eq_bch l (mem_levels l) m hm,
    fun v hlo hhi l => ?_⟩
  obtain ⟨row, hrow, hmatches⟩ := structRow_matches v (by omega) hlo l (mem_levels l)
  exact ⟨row, hrow, hmatches⟩

end Sys2Proof.Proofs
end

section
/-! SUPPORT. The host's stages (48_host_stages.md). What fits a version; the bit stream as its head, cut into bytes, and the
pad codewords; the checks of a request; the run of its script, up to the end of QR_ENCODE and of the WAIT after it; and what
the host then reads. With these, the statements about the host's stages. -/

namespace Sys2Proof.Proofs

open Sys2Proof Sys2Proof.Machine Sys2Proof.Claims Sys2Proof.Safety Sys2Proof.Laws

/-! ### The version selector (R201, R202) -/

theorem fits_iff (n : Nat) (l : Level) (v : Nat) :
    fits n l v = true ↔ headerBits v + 8 * n ≤ 8 * dataCodewords v l := decide_eq_true_iff

theorem fits_eq_false_iff (n : Nat) (l : Level) (v : Nat) :
    fits n l v = false ↔ 8 * dataCodewords v l < headerBits v + 8 * n := by
  rw [← Bool.not_eq_true, fits_iff, not_le]

/-- The selected version is the first of 1..40 that fits. -/
theorem selectVersion_eq_some_iff (n : Nat) (l : Level) (v : Nat) :
    selectVersion n l = some v ↔ fits n l v = true ∧ (1 ≤ v ∧ v ≤ 40) ∧ ∀ u, 1 ≤ u → u < v → fits n l u = false := by
  simp [selectVersion, List.find?_range'_eq_some, Nat.lt_succ_iff]

theorem selectVersion_eq_none_iff (n : Nat) (l : Level) :
    selectVersion n l = none ↔ ∀ u, 1 ≤ u → u ≤ 40 → fits n l u = false := by
  simp [selectVersion, Nat.lt_succ_iff]

/-- What fits a version fits it with a shorter payload too. -/
theorem fits_of_le {n m : Nat} {l : Level} {v : Nat} (hnm : n ≤ m) (h : fits m l v = true) : fits n l v = true := by
  rw [fits_iff] at h ⊢
  omega

/-- D grows from each version to the next (R208). -/
theorem dataCodewords_lt_succ : ∀ l ∈ [Level.L, .M, .Q, .H], ∀ v < 40, 1 ≤ v →
    dataCodewords v l < dataCodewords (v + 1) l := by
  decide +kernel

/-! ### Bits and bytes (R203) -/

@[simp] theorem length_bitsOf (width n : Nat) : (bitsOf width n).length = width := by simp [bitsOf]

@[simp] theorem length_msbFirst (width n : Nat) : (msbFirst width n).length = width := by simp [msbFirst]

/-- The low bits of a number are those of the number as a bit vector. -/
theorem bitsOf_eq_msbFirst (width n : Nat) : bitsOf width n = msbFirst width n := by
  refine List.map_congr_left fun i hi => ?_
  have hi := List.mem_range.1 hi
  rw [BitVec.getMsbD_eq_getLsbD, BitVec.getLsbD_ofNat, decide_eq_true hi,
    decide_eq_true (show width - 1 - i < width by omega), Bool.true_and, Bool.true_and]

/-- A byte put together from eight bits has these bits, the first of them highest. -/
theorem msbFirst_byte : ∀ b7 b6 b5 b4 b3 b2 b1 b0 : Bool,
    msbFirst 8 (BitVec.ofBool b7 ++ BitVec.ofBool b6 ++ BitVec.ofBool b5 ++ BitVec.ofBool b4 ++ BitVec.ofBool b3 ++
      BitVec.ofBool b2 ++ BitVec.ofBool b1 ++ BitVec.ofBool b0).toNat = [b7, b6, b5, b4, b3, b2, b1, b0] := by
  decide

/-- Bits that end on a byte boundary are the bits of the bytes they are cut into. -/
theorem flatMap_bytesOfBits (bits : List Bool) (h : bits.length % 8 = 0) :
    ((bytesOfBits bits).flatMap fun x => msbFirst 8 x.toNat) = bits := by
  fun_induction bytesOfBits bits with
  | case1 b7 b6 b5 b4 b3 b2 b1 b0 rest ih =>
    simp only [List.length_cons] at h
    rw [List.flatMap_cons, ih (by omega), msbFirst_byte]
    rfl
  | case2 bits hshort =>
    have hlen : bits.length < 8 := by
      by_contra hge
      refine hshort bits[0] bits[1] bits[2] bits[3] bits[4] bits[5] bits[6] bits[7] (bits.drop 8) ?_
      simp [List.getElem_zero]
    rw [List.length_eq_zero_iff.1 (show bits.length = 0 by omega), List.flatMap_nil]

/-- They are cut into one byte for eight bits. -/
theorem length_bytesOfBits (bits : List Bool) (h : bits.length % 8 = 0) :
    8 * (bytesOfBits bits).length = bits.length := by
  conv_rhs => rw [← flatMap_bytesOfBits bits h]
  simp [List.length_flatMap, Nat.mul_comm]

theorem length_padBytes (n : Nat) : (padBytes n).length = n := by simp [padBytes]

/-- The pad codewords alternate. -/
theorem padBytes_getElem? {n i : Nat} (hi : i < n) :
    (padBytes n)[i]? = some (if i % 2 = 0 then 0xEC#8 else 0x11#8) := by
  simp [padBytes, hi]

/-! ### The bit stream (R203) -/

theorem headerAndPayload_eq_streamHead (data : List Byte) (v : Nat) : headerAndPayload data v = streamHead data v := by
  simp only [headerAndPayload, streamHead, bitsOf_eq_msbFirst]
  rfl

theorem length_streamHead (data : List Byte) (v : Nat) :
    (streamHead data v).length = headerBits v + 8 * data.length := by
  simp only [streamHead, headerBits, List.length_append, List.length_flatMap, length_msbFirst, List.map_const',
    List.sum_replicate, smul_eq_mul, List.length_cons, List.length_nil]
  split_ifs <;> omega

/-- Header and payload end in the middle of a byte. -/
theorem headerBits_mod_eight (v : Nat) : headerBits v % 8 = 4 := by
  rw [headerBits]
  split_ifs <;> rfl

/-- The codewords of header, payload and terminator. -/
def headCodewords (data : List Byte) (v : Nat) : List Byte :=
  bytesOfBits (streamHead data v ++ [false, false, false, false])

/-- The four zero bits end on a byte boundary. -/
theorem length_terminated_mod_eight (data : List Byte) (v : Nat) :
    (streamHead data v ++ [false, false, false, false]).length % 8 = 0 := by
  have hmod := headerBits_mod_eight v
  rw [List.length_append, length_streamHead]
  simp only [List.length_cons, List.length_nil]
  omega

theorem flatMap_headCodewords (data : List Byte) (v : Nat) :
    ((headCodewords data v).flatMap fun x => msbFirst 8 x.toNat) = streamHead data v ++ [false, false, false, false] :=
  flatMap_bytesOfBits _ (length_terminated_mod_eight data v)

theorem length_headCodewords (data : List Byte) (v : Nat) :
    8 * (headCodewords data v).length = headerBits v + 8 * data.length + 4 := by
  rw [headCodewords, length_bytesOfBits _ (length_terminated_mod_eight data v), List.length_append, length_streamHead]
  rfl

section
variable {data : List Byte} {v : Nat} {l : Level}

/-- Where header and payload fit, there is room for four zero bits. -/
theorem terminatorBits_of_fits (h : headerBits v + 8 * data.length ≤ 8 * dataCodewords v l) :
    terminatorBits (headerBits v + 8 * data.length) (8 * dataCodewords v l) = [false, false, false, false] := by
  have hmod := headerBits_mod_eight v
  rw [terminatorBits, show min _ _ = 4 by omega]
  rfl

theorem bitStream_of_fits (h : headerBits v + 8 * data.length ≤ 8 * dataCodewords v l) :
    bitStream data v l =
      .ok (headCodewords data v ++ padBytes (dataCodewords v l - (headCodewords data v).length)) := by
  rw [bitStream, headerAndPayload_eq_streamHead, length_streamHead, if_neg (Nat.not_lt.2 h), terminatorBits_of_fits h]
  rfl

theorem bitStream_of_not_fits (h : 8 * dataCodewords v l < headerBits v + 8 * data.length) :
    bitStream data v l = .error .capacityExceeded := by
  rw [bitStream, headerAndPayload_eq_streamHead, length_streamHead, if_pos h]

/-- The pad codewords fill what header, payload and terminator leave of D. -/
theorem length_head_append_pad (h : headerBits v + 8 * data.length ≤ 8 * dataCodewords v l) :
    (headCodewords data v ++ padBytes (dataCodewords v l - (headCodewords data v).length)).length =
      dataCodewords v l := by
  have hlen := length_headCodewords data v
  have hmod := headerBits_mod_eight v
  rw [List.length_append, length_padBytes]
  omega

/-- A bit stream that is answered is D codewords. -/
theorem length_of_bitStream {cw : List Byte} (h : bitStream data v l = .ok cw) : cw.length = dataCodewords v l := by
  by_cases hfits : headerBits v + 8 * data.length ≤ 8 * dataCodewords v l
  · rw [bitStream_of_fits hfits] at h
    rw [← Except.ok.inj h, length_head_append_pad hfits]
  · rw [bitStream_of_not_fits (Nat.not_le.1 hfits)] at h
    contradiction

end

/-! ### The checks of a request (R206, R207) -/

theorem ofCode_levelNumber (l : Level) : Level.ofCode (levelNumber l) = l := by cases l <;> rfl

theorem levelNumber_le (l : Level) : levelNumber l ≤ 3 := by cases l <;> decide

/-- A level of 0..3 is the number of a level (R29). -/
theorem exists_levelNumber {n : Nat} (h : n ≤ 3) : ∃ l, n = levelNumber l :=
  ⟨Level.ofCode n, by interval_cases n <;> rfl⟩

theorem versionValid_iff (r : EncodeRequest) :
    r.versionValid = true ↔ ∀ v, r.version = some v → 1 ≤ v ∧ v ≤ 40 := by
  cases h : r.version <;> simp [EncodeRequest.versionValid, h]

/-- The request passes the check of its arguments, with this level. -/
def ValidArguments (r : EncodeRequest) (l : Level) : Prop :=
  r.data ≠ [] ∧ r.level = levelNumber l ∧ r.versionValid = true

theorem prepare_of_invalid {r : EncodeRequest} (h : r.data = [] ∨ r.level > 3 ∨ r.versionValid = false) :
    r.prepare = .error .invalidArgument := if_pos h

section
variable {r : EncodeRequest} {l : Level} (h : ValidArguments r l)
include h

theorem chosenVersion_eq : r.chosenVersion = r.version.or (selectVersion r.data.length l) := by
  obtain ⟨-, hlevel, -⟩ := h
  rw [EncodeRequest.chosenVersion, hlevel, ofCode_levelNumber]
  cases r.version <;> rfl

/-- The version that is chosen is in 1..40. -/
theorem chosenVersion_range {v : Nat} (hv : r.chosenVersion = some v) : 1 ≤ v ∧ v ≤ 40 := by
  rw [chosenVersion_eq h, Option.or_eq_some_iff] at hv
  obtain ⟨-, -, hversion⟩ := h
  rcases hv with hv | ⟨-, hv⟩
  · exact (versionValid_iff r).1 hversion v hv
  · obtain ⟨-, hrange, -⟩ := (selectVersion_eq_some_iff _ _ _).1 hv
    exact hrange

/-- The check of the arguments is passed. -/
theorem not_invalid : ¬(r.data = [] ∨ r.level > 3 ∨ r.versionValid = false) := by
  obtain ⟨hdata, hlevel, hversion⟩ := h
  rw [hlevel, hversion]
  simp [hdata, levelNumber_le l]

theorem prepare_of_other_mode (hmode : r.byteMode = false) : r.prepare = .error .unsupportedMode := by
  rw [EncodeRequest.prepare, if_neg (not_invalid h), if_pos hmode]

theorem prepare_of_no_version (hmode : r.byteMode = true) (hnone : r.chosenVersion = none) :
    r.prepare = .error .capacityExceeded := by
  simp [EncodeRequest.prepare, not_invalid h, hmode, hnone]

/-- With a version chosen, the answer is the version with its bit stream, or the bit stream's error. -/
theorem prepare_of_version (hmode : r.byteMode = true) {v : Nat} (hv : r.chosenVersion = some v) :
    r.prepare = (bitStream r.data v l).map (v, ·) := by
  have hlevel : Level.ofCode r.level = l := by
    obtain ⟨-, hlevel, -⟩ := h
    rw [hlevel, ofCode_levelNumber]
  simp only [EncodeRequest.prepare, if_neg (not_invalid h), hmode, hv, hlevel, reduceCtorEq, if_false]
  cases bitStream r.data v l <;> rfl

end

/-- A request that passes the checks has a valid version and the codewords of its bit stream. -/
theorem prepare_eq_ok {r : EncodeRequest} {v : Nat} {cw : List Byte} (h : r.prepare = .ok (v, cw)) :
    ∃ l, r.level = levelNumber l ∧ (1 ≤ v ∧ v ≤ 40) ∧ bitStream r.data v l = .ok cw := by
  by_cases hbad : r.data = [] ∨ r.level > 3 ∨ r.versionValid = false
  · rw [prepare_of_invalid hbad] at h
    contradiction
  simp only [not_or, Bool.not_eq_false, not_lt] at hbad
  obtain ⟨hdata, hle, hversion⟩ := hbad
  obtain ⟨l, hl⟩ := exists_levelNumber hle
  have hvalid : ValidArguments r l := ⟨hdata, hl, hversion⟩
  cases hmode : r.byteMode with
  | false =>
    rw [prepare_of_other_mode hvalid hmode] at h
    contradiction
  | true =>
    cases hchosen : r.chosenVersion with
    | none =>
      rw [prepare_of_no_version hvalid hmode hchosen] at h
      contradiction
    | some u =>
      rw [prepare_of_version hvalid hmode hchosen] at h
      cases hstream : bitStream r.data u l with
      | error e =>
        rw [hstream] at h
        contradiction
      | ok cw' =>
        rw [hstream] at h
        obtain ⟨rfl, rfl⟩ := Prod.mk.inj (Except.ok.inj h)
        exact ⟨l, hl, chosenVersion_range hvalid hchosen, hstream⟩

/-- What the checks answer is what R207 says. -/
theorem prepareAnswers (r : EncodeRequest) : PrepareAnswers r := by
  refine ⟨fun h => prepare_of_invalid (h.imp_right (Or.imp_right ?invalid)), fun l hdata hlevel hversion => ?valid⟩
  case invalid =>
    rintro ⟨v, hv, hout⟩
    rw [← Bool.not_eq_true, versionValid_iff]
    intro hall
    have hrange := hall v hv
    omega
  case valid =>
    have hvalid : ValidArguments r l := ⟨hdata, hlevel, (versionValid_iff r).2 hversion⟩
    refine ⟨prepare_of_other_mode hvalid, fun hmode => ⟨fun hnone hselect => ?none, fun v hv => ?some⟩⟩
    case none => exact prepare_of_no_version hvalid hmode (by rw [chosenVersion_eq hvalid, hnone, hselect]; rfl)
    case some =>
      have hchosen : r.chosenVersion = some v := by rwa [chosenVersion_eq hvalid, Option.or_eq_some_iff]
      rw [prepare_of_version hvalid hmode hchosen]
      refine ⟨fun hfull => ?_, fun hfits => ?_⟩
      · rw [bitStream_of_not_fits hfull]
        rfl
      · refine ⟨_, bitStream_of_fits hfits, ?_⟩
        rw [bitStream_of_fits hfits]
        rfl

/-! ### The script of a request (R206) -/

/-- The state once the host has loaded CFG and DATA. -/
def loaded (s : State) (v : Nat) (l : Level) (cw : List Byte) : State :=
  { s with cfg := ⟨BitVec.ofNat 6 v, l, 4⟩, mem := s.mem.storeBytes dataBase cw }

/-- The state in which a command that the host started is carried out: its latency has passed, and the host is at the
WAIT. -/
def atWait (s : State) (i : Instr) (rdata : Word) : State :=
  { s with running := some ⟨encode i, 0⟩, script := [.wait], rdata := rdata, draws := s.draws + 1 }

/-- The state in which the WAIT after a command that leaves `u` has ended. -/
def waited (u : State) : State := { u with script := [], rdata := statusWord u }

/-- What the host's write of version, level and mask leaves in CFG (R26 to R29, R97). -/
theorem cfgOfWord_cfgNumber {v : Nat} (hv : v ≤ 40) (l : Level) :
    cfgOfWord (BitVec.ofNat 32 (cfgNumber v l 4)) = ⟨BitVec.ofNat 6 v, l, 4⟩ := by
  have hcode : l.code ≤ 3 := levelNumber_le l
  have hfield (start width : Nat) : ((BitVec.ofNat 32 (cfgNumber v l 4)).extractLsb' start width).toNat =
      (v + l.code * 256 + 4 * 65536) / 2 ^ start % 2 ^ width := by
    rw [BitVec.extractLsb'_toNat, BitVec.toNat_ofNat, Nat.shiftRight_eq_div_pow, cfgNumber,
      Nat.mod_eq_of_lt (show _ < 2 ^ 32 by omega)]
  rw [cfgOfWord, hfield, show (v + l.code * 256 + 4 * 65536) / 2 ^ 8 % 2 ^ 2 = l.code by omega,
    Cfg.mk.injEq]
  refine ⟨BitVec.eq_of_toNat_eq ?_, ofCode_levelNumber l, BitVec.eq_of_toNat_eq ?_⟩
  · rw [hfield, BitVec.toNat_ofNat]
    omega
  · rw [hfield, show (4 : BitVec 3).toNat = 4 from rfl]
    omega

/-- With the engine idle, a write that heads the script is performed and the script goes on. -/
theorem runScript_write {s : State} (hr : s.running = none) (w : Width) (off : Offset) (v : Word) (rest : List HostOp)
    (fuel : Nat) : runScript (fuel + 1) { s with script := .write w off v :: rest } =
      runScript fuel (performWrite w off v { s with script := rest }) :=
  runScript_step rfl (step_write_of_idle (s := { s with script := .write w off v :: rest }) hr rfl) fuel

/-- A byte write in DATA, ECC or SEQ stores its byte. -/
theorem performWrite_byte {a : Nat} (hlo : 0x1000 ≤ a) (hhi : a < 0x4000) (x : Byte) (s : State) :
    performWrite .byte (BitVec.ofNat 17 a) (BitVec.ofNat 32 x.toNat) s = { s with mem := s.mem.store a x } := by
  have hoff : (BitVec.ofNat 17 a).toNat = a := by
    rw [BitVec.toNat_ofNat]
    omega
  have hbyte : (BitVec.ofNat 32 x.toNat).extractLsb' 0 8 = x := by
    apply BitVec.eq_of_toNat_eq
    have hx := x.isLt
    rw [BitVec.extractLsb'_toNat, BitVec.toNat_ofNat]
    omega
  rw [performWrite_buffer (Nat.mod_one _) (by omega) (by omega), hoff, writtenBytes, hbyte]
  rfl

/-- The byte writes of a LOAD store its bytes in a row. -/
theorem runScript_loadOps {a : Nat} {s : State} (hr : s.running = none) {cw : List Byte} (hlo : 0x1000 ≤ a)
    (hhi : a + cw.length ≤ 0x4000) (rest : List HostOp) (fuel : Nat) :
    runScript (fuel + cw.length) { s with script := loadOps a cw ++ rest } =
      runScript fuel { s with script := rest, mem := s.mem.storeBytes a cw } := by
  induction cw generalizing a s with
  | nil => rfl
  | cons x cw ih =>
    rw [List.length_cons] at hhi
    have hstore := ih (a := a + 1) (s := { s with mem := s.mem.store a x }) hr (by omega) (by omega)
    exact (runScript_write hr _ _ _ _ _).trans ((congrArg _ (performWrite_byte hlo (by omega) x _)).trans hstore)

/-- At a WAIT the latency of the command in progress passes. -/
theorem runScript_latency (s : State) (w : Word) (n : Nat) : ∃ x, ∀ fuel,
    runScript (fuel + n) { s with running := some ⟨w, n⟩, script := [.wait] } =
      runScript fuel { s with running := some ⟨w, 0⟩, script := [.wait], rdata := x } := by
  induction n generalizing s with
  | zero => exact ⟨s.rdata, fun fuel => rfl⟩
  | succ n ih =>
    obtain ⟨x, hx⟩ := ih { s with rdata := statusWord { s with running := some ⟨w, n⟩ } }
    refine ⟨x, fun fuel => ?_⟩
    rw [← hx fuel]
    refine runScript_step (by simp [State.quiet]) ?_ (fuel + n)
    rw [step_served rfl (Nat.succ_ne_zero n) rfl, serve_wait_of_busy rfl]
    rfl

/-- The host's first writes load CFG and the codewords. -/
theorem runScript_loads {s : State} (hr : s.running = none) {v : Nat} (hv : v ≤ 40) (l : Level) {cw : List Byte}
    (hlen : cw.length ≤ 0x1000) (rest : List HostOp) (fuel : Nat) :
    runScript (fuel + cw.length + 1)
        { s with script := writeOp .word RegName.CFG.offset (cfgNumber v l 4) :: loadOps dataBase cw ++ rest } =
      runScript fuel { loaded s v l cw with script := rest } := by
  have hcfg := runScript_write hr .word 0x014 (BitVec.ofNat 32 (cfgNumber v l 4)) (loadOps dataBase cw ++ rest)
    (fuel + cw.length)
  rw [performWrite_cfg, cfgOfWord_cfgNumber hv] at hcfg
  have hload := runScript_loadOps (a := dataBase) (s := { s with cfg := ⟨BitVec.ofNat 6 v, l, 4⟩ }) (cw := cw) hr
    (le_refl 0x1000) (by rw [dataBase]; omega) rest fuel
  exact hcfg.trans hload

/-- A command that the host starts at its script's end comes to the end of its latency. -/
theorem runScript_commandOps {s : State} (hr : s.running = none) (i : Instr) : ∃ x n, ∀ fuel,
    runScript (fuel + n) { s with script := commandOps i } = runScript fuel (atWait s i x) := by
  obtain ⟨x, hwait⟩ := runScript_latency { s with draws := s.draws + 1 } (encode i) (Config.latency s.draws (encode i))
  refine ⟨x, Config.latency s.draws (encode i) + 1, fun fuel => ?_⟩
  have hcmd := runScript_write hr .word 0x010 (encode i) [.wait] (fuel + Config.latency s.draws (encode i))
  rw [performWrite_cmd] at hcmd
  exact hcmd.trans (hwait fuel)

/-- The script of a request comes to the end of QR_ENCODE's latency with CFG and the codewords loaded. -/
theorem runScript_encodeOps {s : State} (hr : s.running = none) {v : Nat} (hv : v ≤ 40) (l : Level) {cw : List Byte}
    (hlen : cw.length ≤ 0x1000) : ∃ x n, ∀ fuel, runScript (fuel + n) { s with script := encodeOps v l cw } =
      runScript fuel (atWait (loaded s v l cw) .qrEncode x) := by
  obtain ⟨x, n, hcommand⟩ := runScript_commandOps (s := loaded s v l cw) hr .qrEncode
  refine ⟨x, n + cw.length + 1, fun fuel => ?_⟩
  rw [← Nat.add_assoc, ← Nat.add_assoc]
  exact (runScript_loads hr hv l hlen _ (fuel + n)).trans (hcommand fuel)

/-- Once the command has ended, the WAIT ends and with it the script. -/
theorem runScript_atWait {s u : State} {i : Instr} {x : Word} (hi : i.wellFormed = true)
    (hexec : exec i (atWait s i x) = .next u) (hidle : u.running = none) (hscript : u.script = [.wait]) :
    runScript 2 (atWait s i x) = some (waited u) := by
  have hends : step (atWait s i x) = .next u :=
    (step_ends rfl (.inl rfl)).trans ((runWord_of_decode (decodeEncodeRoundTrip i hi) _).trans hexec)
  have hwaits : step u = .next (waited u) :=
    (step_idle hidle hscript).trans (congrArg _ (serve_wait_of_idle (s := { u with script := [] }) hidle))
  rw [runScript_step rfl hends, runScript_step (by simp [State.quiet, hscript]) hwaits,
    runScript_quiet (by simp [State.quiet, waited, hidle])]

/-! ### What the host reads back (R66, R206) -/

theorem errSeen_eq (s : State) : errSeen s = s.status.err := by
  change (statusWord s).getLsbD 2 = _
  simp only [statusWord, BitVec.getLsbD_append (m := 1)]
  simp

theorem encodeReadback_of_err {s : State} (h : s.status.err = true) (v : Nat) :
    encodeReadback v s = .error (reportOf (errcodeSeen s)) := if_pos ((errSeen_eq s).trans h)

theorem encodeReadback_of_not_err {s : State} (h : s.status.err = false) (v : Nat) :
    encodeReadback v s = .ok (moduleMatrix s (21 + 4 * (v - 1))) := by
  rw [encodeReadback, errSeen_eq, h]
  rfl

/-- With the engine idle, a module of a written cell is its DARK bit. -/
theorem moduleDark_of_cells {s : State} {r c : Nat} {dark rsv : Bool} (hr : s.running = none) (hrow : r ≤ 176)
    (hcol : c ≤ 176) (hd : s.planes.dark.cell? r c = some dark) (hv : s.planes.rsv.cell? r c = some rsv) :
    moduleDark s r c = dark := by
  obtain ⟨-, hbyte⟩ := matrixWindowShowsThePlanes s r c hr (by omega) (by omega)
  rw [moduleDark, ← BitVec.testBit_toNat, matrixBase, hbyte dark rsv hrow hcol hd hv, Nat.testBit_zero]
  cases dark <;> cases rsv <;> rfl

theorem length_moduleMatrix (s : State) (S : Nat) : (moduleMatrix s S).length = S := by simp [moduleMatrix]

theorem length_of_mem_moduleMatrix {s : State} {S : Nat} {row : List Bool} (h : row ∈ moduleMatrix s S) :
    row.length = S := by
  obtain ⟨r, -, rfl⟩ := List.mem_map.1 h
  simp

theorem moduleMatrix_getElem? (s : State) {S i j : Nat} (hi : i < S) (hj : j < S) :
    ((moduleMatrix s S)[i]?.bind fun row => row[j]?) = some (moduleDark s i j) := by
  simp [moduleMatrix, hi, hj]

/-- MX_BUILD leaves both bits of every cell written. -/
theorem reservedValued_buildBody (g : Geometry) (s : State) : ReservedValued (buildBody g s).planes := by
  have hclear : ReservedValued (clearBody s).planes := fun _ _ hcell => hcell
  have hdrawn : ReservedValued (drawnBody g s).planes := reservedValued_stamp (reservedValued_stamp hclear _) _
  have hplaced : ReservedValued (placeBody g (drawnBody g s)).planes := fun r c hrsv =>
    isSome_cell_placeCells _ _ _ _ _ _ _ (hdrawn r c hrsv)
  exact reservedValued_stamp hplaced _

/-- What the host reads in place of a cell after QR_ENCODE is the DARK bit left there. -/
theorem moduleDark_buildBody {g : Geometry} (hg : GeometryBounds g) {s t : State} (hr : t.running = none)
    (ht : t.planes = (buildBody g s).planes) {r c : Nat} (hrow : r ≤ 176) (hcol : c ≤ 176) :
    some (moduleDark t r c) = (buildBody g s).planes.dark.cell? r c := by
  have hrsv := buildBody_rsv hg s hrow hcol
  obtain ⟨dark, hdark⟩ := Option.isSome_iff_exists.1 (reservedValued_buildBody g s r c (by rw [hrsv]; rfl))
  rw [hdark, moduleDark_of_cells hr hrow hcol (ht ▸ hdark) (ht ▸ hrsv)]

/-- A version of 1..40 in CFG selects the quantities of the host's table (R130). -/
theorem exists_geometry {v : Nat} (hv : 1 ≤ v ∧ v ≤ 40) (l : Level) (mask : BitVec 3) :
    ∃ g, geometry ⟨BitVec.ofNat 6 v, l, mask⟩ = some g ∧ GeometryBounds g ∧ g.data = dataCodewords v l := by
  have hversion : (BitVec.ofNat 6 v).toNat = v := by
    rw [BitVec.toNat_ofNat]
    omega
  have hsome := (geometry_isSome_iff ⟨BitVec.ofNat 6 v, l, mask⟩).2 (hversion.symm ▸ hv)
  obtain ⟨g, hg⟩ := Option.isSome_iff_exists.1 hsome
  have hg' : geometryOf v l = some g := by rwa [geometry, hversion] at hg
  exact ⟨g, hg, bounds_of_geometry hg, by rw [dataCodewords, hg']⟩

theorem encode_of_prepare {r : EncodeRequest} {v : Nat} {cw : List Byte} {l : Level} (hl : r.level = levelNumber l)
    (h : r.prepare = .ok (v, cw)) (fuel : Nat) (s : State) : r.encode fuel s =
      (runScript fuel { s with script := encodeOps v l cw }).map fun t => (t, encodeReadback v t) := by
  rw [EncodeRequest.encode, h, hl, ofCode_levelNumber]

/-- QR_ENCODE ends, with the registers kept and the planes that MX_BUILD leaves (R182). -/
theorem exists_exec_qrEncode {b : State} {g : Geometry} (h : geometry b.cfg = some g) :
    ∃ u, exec .qrEncode b = .next u ∧ EndsDone b u ∧ u.planes = (buildBody g (encodeBody g b)).planes :=
  ⟨_, exec_qrEncode h, by simp [EndsDone, KeepsRegisters], rfl⟩

/-! ### The obligations -/

/-- Settles O57: the selector is the first version found to fit. -/
theorem selectedVersionIsTheFirstThatFits : Obligations.SelectedVersionIsTheFirstThatFits := by
  refine ⟨fun n l v => ?some, fun n l => ?none⟩
  case some =>
    simp only [selectVersion_eq_some_iff, fits_iff, fits_eq_false_iff]
    tauto
  case none => simp only [selectVersion_eq_none_iff, fits_eq_false_iff]

/-- Settles O58: four bits are missing to the byte boundary, and where header and payload fit there is room for them. -/
theorem bitStreamFillsTheCapacity : Obligations.BitStreamFillsTheCapacity := by
  refine fun data v l _ _ => ⟨fun hfits => ?_, bitStream_of_not_fits⟩
  refine ⟨_, _, bitStream_of_fits hfits, length_head_append_pad hfits, flatMap_headCodewords data v, fun i hi => ?_⟩
  exact padBytes_getElem? (by rwa [length_padBytes] at hi)

/-- Settles O59: the version selected for the longer payload fits the shorter one, so the first that fits is not later. -/
theorem selectedVersionIsMonotone : Obligations.SelectedVersionIsMonotone := by
  refine ⟨fun l v hlo hhi => dataCodewords_lt_succ l (mem_levels l) v hhi hlo, fun l n m v w hnm hv hw => ?_⟩
  obtain ⟨-, -, hfirst⟩ := (selectVersion_eq_some_iff n l v).1 hv
  obtain ⟨hfits, ⟨hpos, -⟩, -⟩ := (selectVersion_eq_some_iff m l w).1 hw
  by_contra hlt
  have hfits := fits_of_le hnm hfits
  rw [hfirst w hpos (not_le.1 hlt)] at hfits
  contradiction

/-- Settles O60: the script runs to its end, QR_ENCODE writes every cell, and the host reads each back. -/
theorem encodeAnswersWhatQrEncodeLeaves : Obligations.EncodeAnswersWhatQrEncodeLeaves := by
  refine ⟨prepareAnswers, fun r s v cw hr hprepare => ?runs, fun r s fuel e hprepare => ?fails⟩
  case fails => rw [EncodeRequest.encode, hprepare]
  case runs =>
    obtain ⟨l, hl, hv, hstream⟩ := prepare_eq_ok hprepare
    obtain ⟨g, hgeometry, hg, hdata⟩ := exists_geometry hv l 4
    have hlen : cw.length ≤ 0x1000 := by
      have htotal := hg.total_le
      rw [Geometry.total, hdata, ← length_of_bitStream hstream] at htotal
      omega
    obtain ⟨x, n, hrun⟩ := runScript_encodeOps hr hv.2 l hlen
    obtain ⟨u, hexec, hends, hplanes⟩ := exists_exec_qrEncode (b := atWait (loaded s v l cw) .qrEncode x) hgeometry
    obtain ⟨⟨-, -, -, -, herrcode, hscript, -, hkept, -⟩, -, hidle, -, -⟩ := hends
    have hencode : r.encode (2 + n) s = some (waited u, encodeReadback v (waited u)) := by
      rw [encode_of_prepare hl hprepare, hrun, runScript_atWait rfl hexec hidle hscript]
      rfl
    refine ⟨atWait (loaded s v l cw) .qrEncode x, u, waited u, 2 + n, encodeReadback v (waited u), ⟨l, hl, rfl⟩,
      fun k hk => lookup_storeBytes_add _ _ hk, fun a ha => lookup_storeBytes_outside _ ha, rfl, rfl, hexec, hencode,
      rfl, rfl, rfl, rfl, herrcode, hidle, fun herr => ?matrix, fun herr => ?report⟩
    case matrix =>
      have hv := hv.2
      refine ⟨_, encodeReadback_of_not_err (hkept.trans herr) v, length_moduleMatrix _ _,
        fun row hrow => length_of_mem_moduleMatrix hrow, fun i j hi hj => ?_⟩
      rw [moduleMatrix_getElem? _ hi hj, hplanes]
      exact moduleDark_buildBody hg hidle hplanes (by omega) (by omega)
    case report =>
      exact (encodeReadback_of_err (s := waited u) (hkept.trans herr) v).trans
        (congrArg (fun code : ErrCode => Except.error (reportOf code.code)) herrcode)

end Sys2Proof.Proofs
end

section
/-! SUPPORT. How a command ends (60_exceptions.md): in one of two ways, whatever the command and the state; what the two ways
leave of the interrupt output; and that the accesses served before the end only count down to it. With these, the statements
about errors, the interrupt and progress. -/

namespace Sys2Proof.Proofs

open Sys2Proof Sys2Proof.Machine Sys2Proof.Claims Sys2Proof.Safety Sys2Proof.Laws

/-! ### The two ways a command ends (R220 to R222) -/

/-- The result is the successful end of a command that kept the registers, or an error taken on the state it began in. -/
def EndsEitherWay (s : State) (r : Result) : Prop :=
  (∃ u, KeepsRegisters s u ∧ r = succeed u) ∨ ∃ code, code ≠ .none ∧ r = raise code s

theorem endsEitherWay_succeed {s u : State} (h : KeepsRegisters s u) : EndsEitherWay s (succeed u) := .inl ⟨u, h, rfl⟩

theorem endsEitherWay_raise (s : State) {code : ErrCode} (h : code ≠ .none) : EndsEitherWay s (raise code s) :=
  .inr ⟨code, h, rfl⟩

/-- A "needs version" command ends in one of the two ways if its body does. -/
theorem endsEitherWay_withGeometry {s : State} {body : Geometry → Result} (h : ∀ g, EndsEitherWay s (body g)) :
    EndsEitherWay s (withGeometry s body) := by
  rcases withGeometry_cases s body with ⟨-, hnone⟩ | ⟨g, -, -, hsome⟩
  · rw [hnone]
    exact endsEitherWay_raise s (by decide)
  · rw [hsome]
    exact h g

/-- A command whose one check comes before its effect ends in one of the two ways. -/
theorem endsEitherWay_check {s u : State} {bad : Prop} [Decidable bad] {code : ErrCode} (hcode : code ≠ .none)
    (h : KeepsRegisters s u) : EndsEitherWay s (if bad then raise code s else succeed u) := by
  split_ifs
  · exact endsEitherWay_raise s hcode
  · exact endsEitherWay_succeed h

theorem keepsRegisters_setResult (v : Byte) (s : State) : KeepsRegisters s (s.setResult v) := by
  simp [KeepsRegisters]

theorem endsEitherWay_execGfLog (s : State) : EndsEitherWay s (execGfLog s) := by
  rw [execGfLog]
  split
  · exact endsEitherWay_raise s (by decide)
  · exact endsEitherWay_succeed (keepsRegisters_setResult _ s)

theorem endsEitherWay_exec (i : Instr) (s : State) : EndsEitherWay s (exec i s) := by
  cases i with
  | gfLog => exact endsEitherWay_execGfLog s
  | gfGen n k => exact endsEitherWay_check (by decide) (keepsRegisters_setResult _ s)
  | rsEcc b | rsSynd b =>
    exact endsEitherWay_withGeometry fun g => endsEitherWay_check (by decide) (by simp [KeepsRegisters])
  | nop | gfAdd | gfMul | gfExp | mxClear => exact endsEitherWay_succeed (by simp [KeepsRegisters])
  | _ => exact endsEitherWay_withGeometry fun g => endsEitherWay_succeed (by simp [KeepsRegisters])

/-- An illegal word ends in an error too. -/
theorem endsEitherWay_runWord (w : Word) (s : State) : EndsEitherWay s (runWord w s) := by
  rcases runWord_cases w s with ⟨i, -, hrun⟩ | ⟨e, -, hrun⟩
  · rw [hrun]
    exact endsEitherWay_exec i s
  · rw [hrun]
    exact endsEitherWay_raise s (by decide)

/-- Either way leaves no command in progress. -/
theorem EndsEitherWay.exists_idle {s : State} {r : Result} (h : EndsEitherWay s r) :
    ∃ t, r = .next t ∧ t.running = none := by
  rcases h with ⟨u, -, rfl⟩ | ⟨code, -, rfl⟩
  · exact ⟨_, rfl, finish_running u⟩
  · exact ⟨_, rfl, fail_running code s⟩

/-! ### The interrupt output (R226) -/

theorem irq_finish (s : State) : irq s.finish = s.ie := by simp [irq]

theorem irq_fail (code : ErrCode) (s : State) : irq (s.fail code) = s.ie := by simp [irq]

/-- An acknowledgement of both events clears the interrupt. -/
theorem irq_acknowledge {v : Word} (hdone : v.getLsbD 1 = true) (herr : v.getLsbD 2 = true) (s : State) :
    irq (acknowledge v s) = false := by
  simp [irq, hdone, herr]

/-! ### The events before the end (R70, R254, R258) -/

/-- While a command is in progress, the service of a host action leaves it as it was or, by a reset, abandons it. -/
theorem serve_running_of_busy {s : State} (hb : s.busy = true) (op : HostOp) :
    (serve op s).running = s.running ∨ (serve op s).running = none := by
  cases op with
  | write w off v =>
    rcases hostWrite_cases w off v s with ⟨-, -, -, hw⟩ | ⟨hserved, hw⟩ <;> rw [serve, hw]
    · exact .inl rfl
    · rcases performed_while_busy hb hserved with rfl | rfl
      · rw [performWrite_ctrl, writeCtrl]
        split_ifs <;> simp
      · rw [performWrite_status]
        split_ifs <;> simp
  | read w off => exact .inl rfl
  | wait => exact .inl rfl
  | hardReset => exact .inr rfl

/-- One event of a command in progress: afterwards none is in progress, or the count is one lower. -/
theorem step_of_running {s : State} {r : Running} (hr : s.running = some r) :
    ∃ t, step s = .next t ∧ (t.running = none ∨ (r.wait ≠ 0 ∧ t.running = some ⟨r.word, r.wait - 1⟩)) := by
  by_cases hw : r.wait = 0 ∨ s.script = []
  · obtain ⟨t, hrun, hidle⟩ := (endsEitherWay_runWord r.word s).exists_idle
    exact ⟨t, (step_ends hr hw).trans hrun, .inl hidle⟩
  · obtain ⟨hw, hscript⟩ := not_or.1 hw
    obtain ⟨op, rest, hs⟩ := List.exists_cons_of_ne_nil hscript
    refine ⟨_, step_served hr hw hs, ?_⟩
    exact (serve_running_of_busy rfl op).symm.imp_right fun hkept => ⟨hw, hkept⟩

/-! ### The order of the checks (R224) -/

/-- The version is the first check of every command that needs one. -/
theorem exec_of_needsVersion {i : Instr} (h : NeedsVersion i) (s : State) : ∃ body, exec i s = withGeometry s body := by
  rcases h with ⟨b, rfl⟩ | rfl | rfl | ⟨b, rfl⟩ | rfl | rfl | rfl | rfl | rfl | rfl | rfl <;> exact ⟨_, rfl⟩

section
variable {s : State} {g : Geometry} (h : geometry s.cfg = some g) {b : Nat} (hb : b ≥ g.blocks)
include h hb

theorem exec_rsEcc_of_bad_block : exec (.rsEcc b) s = .next (s.fail .badBlock) :=
  (withGeometry_some h _).trans (if_pos hb)

theorem exec_rsSynd_of_bad_block : exec (.rsSynd b) s = .next (s.fail .badBlock) :=
  (withGeometry_some h _).trans (if_pos hb)

end

/-! ### The obligations -/

/-- Settles O7: every arm of exec is `succeed` of an effect that keeps the registers, or `raise`. -/
theorem commandsEndInOneOfTwoWays : Obligations.CommandsEndInOneOfTwoWays := by
  intro i s
  rcases endsEitherWay_exec i s with ⟨u, hkeeps, hexec⟩ | ⟨code, hcode, hexec⟩
  · obtain ⟨-, -, -, -, herrcode, -, -, herr, -⟩ := hkeeps
    exact ⟨_, hexec, .inl ⟨rfl, rfl, herr, herrcode⟩⟩
  · exact ⟨_, hexec, .inr ⟨code, hcode, rfl⟩⟩

/-- Settles O9, by induction on the count: an event ends the command or lowers the count. -/
theorem commandEndsWithinItsLatency : Obligations.CommandEndsWithinItsLatency := by
  intro s r hr
  induction hn : r.wait generalizing s r with
  | zero =>
    obtain ⟨t, hstep, hidle | ⟨hw, -⟩⟩ := step_of_running hr
    · exact ⟨1, le_rfl, t, run_succ hstep, hidle⟩
    · exact absurd hn hw
  | succ n ih =>
    obtain ⟨u, hstep, hidle | ⟨-, hcount⟩⟩ := step_of_running hr
    · exact ⟨1, by omega, u, run_succ hstep, hidle⟩
    · obtain ⟨k, hk, t, hrun, hidle⟩ := ih u _ hcount (by simp [hn])
      exact ⟨k + 1, by omega, t, (run_succ hstep).trans hrun, hidle⟩

/-- Settles O19: each way a command ends sets DONE or ERR, and IE is kept. -/
theorem interruptFollowsCommandEnd : Obligations.InterruptFollowsCommandEnd := by
  refine ⟨fun i s t hexec => ?ends, irq_acknowledge (by decide) (by decide), fun s => rfl, fun s o z => rfl, rfl⟩
  case ends =>
    rcases endsEitherWay_exec i s with ⟨u, ⟨hie, -⟩, hends⟩ | ⟨code, -, hends⟩
    · obtain rfl := Host.Outcome.next.inj (hexec.symm.trans hends)
      exact (irq_finish u).trans hie
    · obtain rfl := Host.Outcome.next.inj (hexec.symm.trans hends)
      exact irq_fail code s

/-- Settles O27: each error is the answer of the check that comes first. -/
theorem checksAreMadeInOrder : Obligations.ChecksAreMadeInOrder := by
  refine ⟨fun s r w rest hr hw hs => ?busy, fun s w h => runWord_of_illegal h s, fun s i hi hv => ?version,
    fun s g b h hb => ⟨exec_rsEcc_of_bad_block h hb, exec_rsSynd_of_bad_block h hb⟩, fun s h => exec_gfLog_of_zero h,
    fun s n k h => exec_gfGen_of_bad h s⟩
  case busy =>
    obtain ⟨-, hdropped, -, -⟩ := cmdWriteAcceptedOrDropped
    exact ⟨_, hdropped s r w rest hr hw hs, rfl, rfl, rfl⟩
  case version =>
    obtain ⟨body, hexec⟩ := exec_of_needsVersion hi s
    exact hexec.trans (withGeometry_none (geometry_eq_none hv) body)

/-- Settles O8: a word that is carried out ends, and every host action is served. -/
theorem everyStepGoesOn : Obligations.EveryStepGoesOn := by
  intro s
  rcases step_cases s with ⟨r, hr, -⟩ | ⟨_, _, _, -, -, -, hstep⟩ | ⟨_, _, -, -, hstep⟩ | ⟨-, -, hstep⟩
  · obtain ⟨t, hstep, -⟩ := step_of_running hr
    exact ⟨t, hstep⟩
  all_goals exact ⟨_, hstep⟩

end Sys2Proof.Proofs
end

section
/-! SUPPORT. Reset and hazards (70_reset_and_hazards.md): what the service of a host action leaves of a command in progress
and of what it reads; and, effect by effect, that a command writes only the pieces of state it is listed as a writer of. With
these, the statements about resets, accesses while BUSY = 1 and the writers of each piece of state. -/

namespace Sys2Proof.Proofs

open Sys2Proof Sys2Proof.Machine Sys2Proof.Claims Sys2Proof.Safety Sys2Proof.Laws

/-! ### Resets (R250 to R252) -/

/-- A word write of CTRL with SRST = 1 is a reset, whatever its bit for IE. -/
theorem writeCtrl_of_srst_set {v : Word} (hv : v.getLsbD 1 = true) (s : State) : writeCtrl v s = s.resetCore :=
  if_pos hv

/-- Either reset, idle or busy, has the one effect of a reset. -/
theorem serve_of_isReset {op : HostOp} (h : IsReset op) (s : State) : serve op s = s.resetCore := by
  rcases h with rfl | ⟨v, hv, rfl⟩
  · rfl
  · rw [serve, hostWrite_ctrl, writeCtrl_of_srst_set hv]

/-- After either reset CFG reads VERSION = 1, LEVEL = L, MASK = 4 (R40). -/
theorem cfgWord_resetCore (s : State) : cfgWord s.resetCore.cfg = 0x00040001 := by
  rw [resetCore_cfg]
  rfl

/-! ### Accesses while BUSY = 1 (R254) -/

/-- `t` is `s`, with the same command in progress, but for CTRL.IE, the W1C bits of STATUS and what is the host's. -/
def KeepsCommandInputs (s t : State) : Prop :=
  t.running = s.running ∧ t.cfg = s.cfg ∧ t.opa = s.opa ∧ t.opb = s.opb ∧ t.result = s.result ∧ t.mem = s.mem ∧
    t.planes = s.planes ∧ t.errcode = s.errcode ∧ t.status.synz = s.status.synz

/-- A write of CTRL that is no reset writes IE, as a word, or nothing. -/
theorem keepsCommandInputs_write_ctrl {w : Width} {v : Word} (h : ¬IsReset (.write w 0x004 v)) (s : State) :
    KeepsCommandInputs s (performWrite w 0x004 v s) := by
  rw [performWrite_ctrl]
  split_ifs with hw
  · have hv : v.getLsbD 1 = false := by
      by_contra hset
      exact h (.inr ⟨v, eq_true_of_ne_false hset, by rw [hw]⟩)
    rw [writeCtrl_of_srst_clear hv]
    simp [KeepsCommandInputs]
  · simp [KeepsCommandInputs]

/-- A write of STATUS acknowledges DONE, ERR and OVR, or is not performed. -/
theorem keepsCommandInputs_write_status (w : Width) (v : Word) (s : State) :
    KeepsCommandInputs s (performWrite w 0x008 v s) := by
  rw [performWrite_status]
  split_ifs <;> simp [KeepsCommandInputs]

/-- While a command is in progress, only a reset touches it or what it reads. -/
theorem keepsCommandInputs_serve {s : State} (hb : s.busy = true) {op : HostOp} (h : ¬IsReset op) :
    KeepsCommandInputs s (serve op s) := by
  cases op with
  | write w off v =>
    rcases hostWrite_cases w off v s with ⟨-, -, -, hdropped⟩ | ⟨hserved, hperformed⟩
    · rw [serve, hdropped]
      simp [KeepsCommandInputs]
    · rw [serve, hperformed]
      rcases performed_while_busy hb hserved with rfl | rfl
      · exact keepsCommandInputs_write_ctrl h s
      · exact keepsCommandInputs_write_status w v s
  | read w off => simp [serve, KeepsCommandInputs]
  | wait => simp [serve, KeepsCommandInputs]
  | hardReset => exact absurd (.inl rfl) h

/-! ### The writers of each piece of state (R257) -/

/-- The byte lies in a buffer that the command is listed as a writer of; in DATA none does. -/
def MayStore (i : Instr) (a : Nat) : Prop :=
  (eccBase ≤ a ∧ a < seqBase ∧ WritesEcc i) ∨ (seqBase ≤ a ∧ a < syndBase ∧ WritesSeq i) ∨
    (syndBase ≤ a ∧ WritesSynd i)

/-- `t` differs from `s` only in the pieces of state, among those that commands write, that `i` is listed as a writer of. -/
structure WritesOnlyOutputs (i : Instr) (s t : State) : Prop where
  result : ¬WritesResult i → t.result = s.result
  mem : ∀ a, ¬MayStore i a → t.mem.lookup a = s.mem.lookup a
  synz : ¬WritesSynd i → t.status.synz = s.status.synz
  rsv : ¬WritesRsv i → t.planes.rsv = s.planes.rsv
  dark : ¬WritesDark i → t.planes.dark = s.planes.dark

section
variable {i : Instr}

theorem writesOnlyOutputs_refl (s : State) : WritesOnlyOutputs i s s :=
  ⟨fun _ => rfl, fun _ _ => rfl, fun _ => rfl, fun _ => rfl, fun _ => rfl⟩

/-- One effect after another: this is how the compound commands are made (R140, R181, R182). -/
theorem WritesOnlyOutputs.trans {s t u : State} (h : WritesOnlyOutputs i s t) (h' : WritesOnlyOutputs i t u) :
    WritesOnlyOutputs i s u where
  result hn := (h'.result hn).trans (h.result hn)
  mem a hn := (h'.mem a hn).trans (h.mem a hn)
  synz hn := (h'.synz hn).trans (h.synz hn)
  rsv hn := (h'.rsv hn).trans (h.rsv hn)
  dark hn := (h'.dark hn).trans (h.dark hn)

/-- Both ends of a command write none of its outputs. -/
theorem writesOnlyOutputs_finish (s : State) : WritesOnlyOutputs i s s.finish :=
  ⟨fun _ => rfl, fun _ _ => rfl, fun _ => rfl, fun _ => rfl, fun _ => rfl⟩

theorem writesOnlyOutputs_fail (code : ErrCode) (s : State) : WritesOnlyOutputs i s (s.fail code) :=
  ⟨fun _ => rfl, fun _ _ => rfl, fun _ => rfl, fun _ => rfl, fun _ => rfl⟩

theorem writesOnlyOutputs_setResult (h : WritesResult i) (v : Byte) (s : State) : WritesOnlyOutputs i s (s.setResult v) :=
  { writesOnlyOutputs_refl s with result := (absurd h ·) }

theorem writesOnlyOutputs_setMem {s : State} {m : Memory} (h : ∀ a, ¬MayStore i a → m.lookup a = s.mem.lookup a) :
    WritesOnlyOutputs i s (s.setMem m) :=
  { writesOnlyOutputs_refl s with mem := h }

theorem writesOnlyOutputs_setPlanes (h : WritesRsv i) (p : Planes) (s : State) : WritesOnlyOutputs i s (s.setPlanes p) :=
  { writesOnlyOutputs_refl s with rsv := (absurd h ·), dark := (absurd (.inl h) ·) }

/-! The effects. What the Reed-Solomon commands store lies in the buffer they write, by the bounds of the structure table. -/

section
variable {g : Geometry} (hg : GeometryBounds g) (s : State)
include hg

theorem writesOnlyOutputs_eccBody (h : WritesEcc i) {b : Nat} (hb : b < g.blocks) :
    WritesOnlyOutputs i s (eccBody g b s) := by
  have hend : (b + 1) * g.ecc ≤ g.blocks * g.ecc := Nat.mul_le_mul_right _ hb
  rw [Nat.succ_mul] at hend
  have heccs := hg.eccs_le
  refine writesOnlyOutputs_setMem fun a ha => lookup_storeEcc_outside s g _ b fun hin => ha (.inl ⟨?_, ?_, h⟩)
  all_goals simp only [eccBase, seqBase] at hin ⊢; omega

theorem writesOnlyOutputs_eccAllBody (h : WritesEcc i) : WritesOnlyOutputs i s (eccAllBody g s) := by
  have heccs := hg.eccs_le
  refine writesOnlyOutputs_setMem fun a ha => lookup_foldl_storeEcc_outside s g _ _ fun hin => ha (.inl ⟨hin.1, ?_, h⟩)
  simp only [eccBase, seqBase] at hin ⊢
  omega

theorem writesOnlyOutputs_interleaveBody (h : WritesSeq i) : WritesOnlyOutputs i s (interleaveBody g s) := by
  have htotal := hg.total_le
  refine writesOnlyOutputs_setMem fun a ha =>
    lookup_interleaveBody_outside hg fun hin => ha (.inr (.inl ⟨hin.1, ?_, h⟩))
  simp only [seqBase, syndBase] at hin ⊢
  omega

theorem writesOnlyOutputs_encodeBody (hecc : WritesEcc i) (hseq : WritesSeq i) :
    WritesOnlyOutputs i s (encodeBody g s) :=
  (writesOnlyOutputs_eccAllBody hg s hecc).trans (writesOnlyOutputs_interleaveBody hg _ hseq)

end

section
variable (g : Geometry) (s : State)

theorem writesOnlyOutputs_syndBody (h : WritesSynd i) (b : Nat) : WritesOnlyOutputs i s (syndBody g b s) where
  result _ := syndBody_result g b s
  mem a ha := by
    rw [syndBody_mem]
    exact lookup_storeBytes_outside _ fun hin => ha (.inr (.inr ⟨hin.1, h⟩))
  synz := (absurd h ·)
  rsv _ := by rw [syndBody_planes]
  dark _ := by rw [syndBody_planes]

/-- MX_PLACE reads RSV and writes DARK only (R177). -/
theorem writesOnlyOutputs_placeBody (h : WritesDark i) : WritesOnlyOutputs i s (placeBody g s) where
  result _ := placeBody_result g s
  mem _ _ := by rw [placeBody_mem]
  synz _ := by rw [placeBody_status]
  rsv _ := placeBody_rsv g s
  dark := (absurd h ·)

/-- MX_BUILD is a writer of whatever its five parts write (R181). -/
theorem writesOnlyOutputs_buildBody (h : WritesRsv i) : WritesOnlyOutputs i s (buildBody g s) :=
  have hclear := writesOnlyOutputs_setPlanes h _ s
  have htemplate := hclear.trans (writesOnlyOutputs_setPlanes h _ _)
  have hverinfo := htemplate.trans (writesOnlyOutputs_setPlanes h _ _)
  have hplace := hverinfo.trans (writesOnlyOutputs_placeBody g _ (.inl h))
  hplace.trans (writesOnlyOutputs_setPlanes h _ _)

end

/-! The end of a command. -/

/-- Whatever state the result goes on with differs from `s` only in the outputs of the command. -/
def EndsWithOutputs (i : Instr) (s : State) (r : Result) : Prop := ∀ t, r = .next t → WritesOnlyOutputs i s t

section
variable {s : State}

theorem endsWithOutputs_succeed {u : State} (h : WritesOnlyOutputs i s u) : EndsWithOutputs i s (succeed u) := by
  rintro t ⟨⟩
  exact h.trans (writesOnlyOutputs_finish u)

theorem endsWithOutputs_raise (code : ErrCode) : EndsWithOutputs i s (raise code s) := by
  rintro t ⟨⟩
  exact writesOnlyOutputs_fail code s

/-- A command that has to pass a check first need keep to its outputs only where it passes. -/
theorem endsWithOutputs_check {bad : Prop} [Decidable bad] {code : ErrCode} {u : State}
    (h : ¬bad → WritesOnlyOutputs i s u) : EndsWithOutputs i s (if bad then raise code s else succeed u) := by
  split_ifs with hbad
  · exact endsWithOutputs_raise code
  · exact endsWithOutputs_succeed (h hbad)

theorem endsWithOutputs_withGeometry {body : Geometry → Result}
    (h : ∀ g, GeometryBounds g → EndsWithOutputs i s (body g)) : EndsWithOutputs i s (withGeometry s body) := by
  rcases withGeometry_cases s body with ⟨-, hnone⟩ | ⟨g, -, hg, hsome⟩
  · rw [hnone]
    exact endsWithOutputs_raise .badConfig
  · rw [hsome]
    exact h g hg

/-- A "needs version" command without another check has the one effect of its body. -/
theorem endsWithOutputs_body {body : Geometry → State} (h : ∀ g, GeometryBounds g → WritesOnlyOutputs i s (body g)) :
    EndsWithOutputs i s (withGeometry s fun g => succeed (body g)) :=
  endsWithOutputs_withGeometry fun g hg => endsWithOutputs_succeed (h g hg)

theorem endsWithOutputs_execGfLog (h : WritesResult i) : EndsWithOutputs i s (execGfLog s) := by
  rw [execGfLog]
  split
  · exact endsWithOutputs_raise .logZero
  · exact endsWithOutputs_succeed (writesOnlyOutputs_setResult h _ s)

end

end

/-- Every command keeps to the outputs it is listed as a writer of. -/
theorem endsWithOutputs_exec (i : Instr) (s : State) : EndsWithOutputs i s (exec i s) := by
  cases i with
  | nop => exact endsWithOutputs_succeed (writesOnlyOutputs_refl s)
  | gfAdd | gfMul | gfExp =>
    exact endsWithOutputs_succeed (writesOnlyOutputs_setResult (by simp [WritesResult]) _ s)
  | gfLog => exact endsWithOutputs_execGfLog (by simp [WritesResult])
  | gfGen n k => exact endsWithOutputs_check fun _ => writesOnlyOutputs_setResult (by simp [WritesResult]) _ s
  | rsEcc b =>
    exact endsWithOutputs_withGeometry fun g hg => endsWithOutputs_check fun hb =>
      writesOnlyOutputs_eccBody hg s (by simp [WritesEcc]) (not_le.1 hb)
  | rsEccAll => exact endsWithOutputs_body fun g hg => writesOnlyOutputs_eccAllBody hg s (by simp [WritesEcc])
  | rsInterleave => exact endsWithOutputs_body fun g hg => writesOnlyOutputs_interleaveBody hg s (by simp [WritesSeq])
  | rsSynd b =>
    exact endsWithOutputs_withGeometry fun g _ => endsWithOutputs_check fun _ =>
      writesOnlyOutputs_syndBody g s ⟨b, rfl⟩ b
  | rsEncode =>
    exact endsWithOutputs_body fun g hg => writesOnlyOutputs_encodeBody hg s (by simp [WritesEcc]) (by simp [WritesSeq])
  | mxClear => exact endsWithOutputs_succeed (writesOnlyOutputs_setPlanes (by simp [WritesRsv]) _ s)
  | mxTemplate | mxVerinfo | mxFormat =>
    exact endsWithOutputs_body fun g _ => writesOnlyOutputs_setPlanes (by simp [WritesRsv]) _ s
  | mxPlace => exact endsWithOutputs_body fun g _ => writesOnlyOutputs_placeBody g s (.inr rfl)
  | mxBuild => exact endsWithOutputs_body fun g _ => writesOnlyOutputs_buildBody g s (by simp [WritesRsv])
  | qrEncode =>
    exact endsWithOutputs_body fun g hg =>
      (writesOnlyOutputs_encodeBody hg s (by simp [WritesEcc]) (by simp [WritesSeq])).trans
        (writesOnlyOutputs_buildBody g _ (by simp [WritesRsv]))

/-- No command writes CTRL.IE, CFG, OPA, OPB or OVR, nor anything of the host's side. -/
theorem inputs_of_exec {i : Instr} {s t : State} (h : exec i s = .next t) : t.ie = s.ie ∧ t.cfg = s.cfg ∧
    t.opa = s.opa ∧ t.opb = s.opb ∧ t.script = s.script ∧ t.rdata = s.rdata ∧ t.status.ovr = s.status.ovr := by
  rcases endsEitherWay_exec i s with ⟨u, hkeeps, hends⟩ | ⟨code, -, hends⟩
  · obtain rfl := Host.Outcome.next.inj (h.symm.trans hends)
    obtain ⟨hie, hcfg, hopa, hopb, -, hscript, hrdata, -, hovr⟩ := hkeeps
    exact ⟨hie, hcfg, hopa, hopb, hscript, hrdata, hovr⟩
  · obtain rfl := Host.Outcome.next.inj (h.symm.trans hends)
    exact ⟨rfl, rfl, rfl, rfl, rfl, rfl, rfl⟩

/-! Which bytes a command may store, buffer by buffer (R60). -/

section
variable {i : Instr} {a : Nat} (h : MayStore i a)
include h

theorem MayStore.eccBase_le : eccBase ≤ a := by
  obtain ⟨hlo, -⟩ | ⟨hlo, -⟩ | ⟨hlo, -⟩ := h
  all_goals simp only [eccBase, seqBase, syndBase] at hlo ⊢; omega

theorem MayStore.writesEcc (hhi : a < seqBase) : WritesEcc i := by
  obtain ⟨-, -, hw⟩ | ⟨hlo, -⟩ | ⟨hlo, -⟩ := h
  · exact hw
  all_goals simp only [seqBase, syndBase] at hlo hhi; omega

theorem MayStore.writesSeq (hlo : seqBase ≤ a) (hhi : a < syndBase) : WritesSeq i := by
  obtain ⟨-, hlt, -⟩ | ⟨-, -, hw⟩ | ⟨hge, -⟩ := h
  · omega
  · exact hw
  · omega

theorem MayStore.writesSynd (hlo : syndBase ≤ a) : WritesSynd i := by
  obtain ⟨-, hlt, -⟩ | ⟨-, hlt, -⟩ | ⟨-, hw⟩ := h
  · simp only [seqBase, syndBase] at hlo hlt
    omega
  · omega
  · exact hw

end

/-! ### The obligations -/

/-- Settles O24: the step serves the write, which is dropped. -/
theorem busyWritesAreDropped : Obligations.BusyWritesAreDropped := by
  intro s r w off v rest hr hw hs hctrl hstatus
  rw [step_served hr hw hs, serve, hostWrite_of_busy rfl hctrl hstatus]
  rfl

/-- Settles O10: the step serves the action, with the command still in progress. -/
theorem busyAccessesLeaveCommandInputsAlone : Obligations.BusyAccessesLeaveCommandInputsAlone := by
  intro s t r op rest hr hw hs hstep
  obtain rfl := Host.Outcome.next.inj ((step_served hr hw hs).symm.trans hstep)
  by_cases hreset : IsReset op
  · exact .inl ⟨hreset, by rw [serve_of_isReset hreset, resetCore_running]⟩
  · exact .inr ⟨hreset, keepsCommandInputs_serve rfl hreset⟩

/-- Settles O14: idle or busy, the step serves the reset. -/
theorem eitherResetRestoresResetState : Obligations.EitherResetRestoresResetState := by
  intro s op rest hnext hs hreset
  obtain ⟨run, -, hstep⟩ := step_of_hostIsNext hnext hs
  rw [serve_of_isReset hreset] at hstep
  exact ⟨_, hstep, rfl, rfl, rfl, cfgWord_resetCore _, rfl, rfl, rfl, rfl, rfl, lookup_nil,
    fun r c => ⟨cell_unwritten r c, cell_unwritten r c⟩, rfl, rfl⟩

/-- Settles O56: no command's effect reaches beyond the outputs it is listed as a writer of, and neither end writes more. -/
theorem commandsWriteOnlyTheirOutputs : Obligations.CommandsWriteOnlyTheirOutputs := by
  intro i s t hexec
  obtain ⟨hie, hcfg, hopa, hopb, hscript, hrdata, hovr⟩ := inputs_of_exec hexec
  obtain ⟨hresult, hmem, hsynz, hrsv, hdark⟩ := endsWithOutputs_exec i s t hexec
  refine ⟨hie, hcfg, hopa, hopb, hovr, hscript, hrdata, or_iff_not_imp_left.2 hresult,
    fun a ha => hmem a fun hstore => ?data, or_iff_not_imp_left.2 fun hn a _ hhi => hmem a fun hstore => ?ecc,
    or_iff_not_imp_left.2 fun hn a hlo hhi => hmem a fun hstore => ?seq,
    or_iff_not_imp_left.2 fun hn => ⟨hsynz hn, fun a hlo => hmem a fun hstore => ?synd⟩, or_iff_not_imp_left.2 hrsv,
    or_iff_not_imp_left.2 hdark⟩
  case data => exact absurd hstore.eccBase_le (not_le.2 ha)
  case ecc => exact hn (hstore.writesEcc hhi)
  case seq => exact hn (hstore.writesSeq hlo hhi)
  case synd => exact hn (hstore.writesSynd hlo)

end Sys2Proof.Proofs
end
